-- ==== Sys2Proof/Word.lean ====
section
/-! DEFINITION. The two widths of the core (R4, R9): bytes and 16-bit words. Addition and subtraction of `BitVec` wrap
(R15), which is the spec's `+8`, `-8`, `+16` and `-16`. -/

namespace Sys2Proof

/-- `u8`: a register, a byte of memory, an opcode. -/
abbrev Byte := BitVec 8

/-- `u16`: an address, a register pair, `sp`, `pc`. -/
abbrev Word := BitVec 16

end Sys2Proof
end

