-- ==== Sys2Proof/Syntax.lean ====
section
/-! DEFINITION. The operand codes and the instructions, as syntax: one constructor of `Instr` for each mnemonic of
spec/opcode_table.json, and four constructors, one for each of the rules R190 to R193, for its 73 fatal rows.
In a constructor's name `AtHl` is the operand (HL), `AtHlInc` is (HL+), `AtHlDec` is (HL-). -/

namespace Sys2Proof

/-- The seven named 8-bit registers (R10). -/
inductive Reg8 where
  | b | c | d | e | h | l | a
  deriving DecidableEq, Repr

/-- An r8 operand (R73): a named register, or the byte of memory at HL (code 6). -/
inductive R8 where
  | reg (r : Reg8)
  | atHl
  deriving DecidableEq, Repr

/-- An r16 operand (R74). -/
inductive R16 where
  | bc | de | hl | sp
  deriving DecidableEq, Repr

/-- An r16mem operand (R75): (BC), (DE), (HL+), (HL-). -/
inductive R16mem where
  | atBc | atDe | atHlInc | atHlDec
  deriving DecidableEq, Repr

/-- A jump condition (R76). -/
inductive Cond where
  | nz | z | nc | c
  deriving DecidableEq, Repr

/-- An operation of the ALU group (R77). -/
inductive AluOp where
  | add | adc | sub | sbc | and | xor | or | cp
  deriving DecidableEq, Repr

/-- The instructions (R80, R81). An operand is what the latches give: `n` is u8 (B2), `nn` is u16 (B3 and B2), `e` is
e8 (B2, not yet extended) (R78); `f2` and `f3` are opcode fields (R71). -/
inductive Instr where
  -- NOP and HALT (R104, R105)
  | nop  -- NOP = 0x00
  | halt  -- HALT = 0x76
  -- LD (u16),SP and LD r16,u16 (R121, R122)
  | ldAtU16Sp (nn : Word)  -- LD (u16),SP = 0x08
  | ldBcU16 (nn : Word)  -- LD BC,u16 = 0x01
  | ldDeU16 (nn : Word)  -- LD DE,u16 = 0x11
  | ldHlU16 (nn : Word)  -- LD HL,u16 = 0x21
  | ldSpU16 (nn : Word)  -- LD SP,u16 = 0x31
  -- LD (r16mem),A and LD A,(r16mem) (R123, R124)
  | ldAtBcA  -- LD (BC),A = 0x02
  | ldAtDeA  -- LD (DE),A = 0x12
  | ldAtHlIncA  -- LD (HL+),A = 0x22
  | ldAtHlDecA  -- LD (HL-),A = 0x32
  | ldAAtBc  -- LD A,(BC) = 0x0A
  | ldAAtDe  -- LD A,(DE) = 0x1A
  | ldAAtHlInc  -- LD A,(HL+) = 0x2A
  | ldAAtHlDec  -- LD A,(HL-) = 0x3A
  -- LD r8,u8 (R125)
  | ldBU8 (n : Byte)  -- LD B,u8 = 0x06
  | ldCU8 (n : Byte)  -- LD C,u8 = 0x0E
  | ldDU8 (n : Byte)  -- LD D,u8 = 0x16
  | ldEU8 (n : Byte)  -- LD E,u8 = 0x1E
  | ldHU8 (n : Byte)  -- LD H,u8 = 0x26
  | ldLU8 (n : Byte)  -- LD L,u8 = 0x2E
  | ldAtHlU8 (n : Byte)  -- LD (HL),u8 = 0x36
  | ldAU8 (n : Byte)  -- LD A,u8 = 0x3E
  -- LD r8,r8 (R126)
  | ldBB  -- LD B,B = 0x40
  | ldBC  -- LD B,C = 0x41
  | ldBD  -- LD B,D = 0x42
  | ldBE  -- LD B,E = 0x43
  | ldBH  -- LD B,H = 0x44
  | ldBL  -- LD B,L = 0x45
  | ldBAtHl  -- LD B,(HL) = 0x46
  | ldBA  -- LD B,A = 0x47
  | ldCB  -- LD C,B = 0x48
  | ldCC  -- LD C,C = 0x49
  | ldCD  -- LD C,D = 0x4A
  | ldCE  -- LD C,E = 0x4B
  | ldCH  -- LD C,H = 0x4C
  | ldCL  -- LD C,L = 0x4D
  | ldCAtHl  -- LD C,(HL) = 0x4E
  | ldCA  -- LD C,A = 0x4F
  | ldDB  -- LD D,B = 0x50
  | ldDC  -- LD D,C = 0x51
  | ldDD  -- LD D,D = 0x52
  | ldDE  -- LD D,E = 0x53
  | ldDH  -- LD D,H = 0x54
  | ldDL  -- LD D,L = 0x55
  | ldDAtHl  -- LD D,(HL) = 0x56
  | ldDA  -- LD D,A = 0x57
  | ldEB  -- LD E,B = 0x58
  | ldEC  -- LD E,C = 0x59
  | ldED  -- LD E,D = 0x5A
  | ldEE  -- LD E,E = 0x5B
  | ldEH  -- LD E,H = 0x5C
  | ldEL  -- LD E,L = 0x5D
  | ldEAtHl  -- LD E,(HL) = 0x5E
  | ldEA  -- LD E,A = 0x5F
  | ldHB  -- LD H,B = 0x60
  | ldHC  -- LD H,C = 0x61
  | ldHD  -- LD H,D = 0x62
  | ldHE  -- LD H,E = 0x63
  | ldHH  -- LD H,H = 0x64
  | ldHL  -- LD H,L = 0x65
  | ldHAtHl  -- LD H,(HL) = 0x66
  | ldHA  -- LD H,A = 0x67
  | ldLB  -- LD L,B = 0x68
  | ldLC  -- LD L,C = 0x69
  | ldLD  -- LD L,D = 0x6A
  | ldLE  -- LD L,E = 0x6B
  | ldLH  -- LD L,H = 0x6C
  | ldLL  -- LD L,L = 0x6D
  | ldLAtHl  -- LD L,(HL) = 0x6E
  | ldLA  -- LD L,A = 0x6F
  | ldAtHlB  -- LD (HL),B = 0x70
  | ldAtHlC  -- LD (HL),C = 0x71
  | ldAtHlD  -- LD (HL),D = 0x72
  | ldAtHlE  -- LD (HL),E = 0x73
  | ldAtHlH  -- LD (HL),H = 0x74
  | ldAtHlL  -- LD (HL),L = 0x75
  | ldAtHlA  -- LD (HL),A = 0x77
  | ldAB  -- LD A,B = 0x78
  | ldAC  -- LD A,C = 0x79
  | ldAD  -- LD A,D = 0x7A
  | ldAE  -- LD A,E = 0x7B
  | ldAH  -- LD A,H = 0x7C
  | ldAL  -- LD A,L = 0x7D
  | ldAAtHl  -- LD A,(HL) = 0x7E
  | ldAA  -- LD A,A = 0x7F
  -- 16-bit arithmetic (R140 to R142)
  | addHlBc  -- ADD HL,BC = 0x09
  | addHlDe  -- ADD HL,DE = 0x19
  | addHlHl  -- ADD HL,HL = 0x29
  | addHlSp  -- ADD HL,SP = 0x39
  | incBc  -- INC BC = 0x03
  | incDe  -- INC DE = 0x13
  | incHl  -- INC HL = 0x23
  | incSp  -- INC SP = 0x33
  | decBc  -- DEC BC = 0x0B
  | decDe  -- DEC DE = 0x1B
  | decHl  -- DEC HL = 0x2B
  | decSp  -- DEC SP = 0x3B
  -- INC r8, DEC r8 (R153, R154)
  | incB  -- INC B = 0x04
  | incC  -- INC C = 0x0C
  | incD  -- INC D = 0x14
  | incE  -- INC E = 0x1C
  | incH  -- INC H = 0x24
  | incL  -- INC L = 0x2C
  | incAtHl  -- INC (HL) = 0x34
  | incA  -- INC A = 0x3C
  | decB  -- DEC B = 0x05
  | decC  -- DEC C = 0x0D
  | decD  -- DEC D = 0x15
  | decE  -- DEC E = 0x1D
  | decH  -- DEC H = 0x25
  | decL  -- DEC L = 0x2D
  | decAtHl  -- DEC (HL) = 0x35
  | decA  -- DEC A = 0x3D
  -- The ALU group (R155 to R163)
  | addAB  -- ADD A,B = 0x80
  | addAC  -- ADD A,C = 0x81
  | addAD  -- ADD A,D = 0x82
  | addAE  -- ADD A,E = 0x83
  | addAH  -- ADD A,H = 0x84
  | addAL  -- ADD A,L = 0x85
  | addAAtHl  -- ADD A,(HL) = 0x86
  | addAA  -- ADD A,A = 0x87
  | adcAB  -- ADC A,B = 0x88
  | adcAC  -- ADC A,C = 0x89
  | adcAD  -- ADC A,D = 0x8A
  | adcAE  -- ADC A,E = 0x8B
  | adcAH  -- ADC A,H = 0x8C
  | adcAL  -- ADC A,L = 0x8D
  | adcAAtHl  -- ADC A,(HL) = 0x8E
  | adcAA  -- ADC A,A = 0x8F
  | subAB  -- SUB A,B = 0x90
  | subAC  -- SUB A,C = 0x91
  | subAD  -- SUB A,D = 0x92
  | subAE  -- SUB A,E = 0x93
  | subAH  -- SUB A,H = 0x94
  | subAL  -- SUB A,L = 0x95
  | subAAtHl  -- SUB A,(HL) = 0x96
  | subAA  -- SUB A,A = 0x97
  | sbcAB  -- SBC A,B = 0x98
  | sbcAC  -- SBC A,C = 0x99
  | sbcAD  -- SBC A,D = 0x9A
  | sbcAE  -- SBC A,E = 0x9B
  | sbcAH  -- SBC A,H = 0x9C
  | sbcAL  -- SBC A,L = 0x9D
  | sbcAAtHl  -- SBC A,(HL) = 0x9E
  | sbcAA  -- SBC A,A = 0x9F
  | andAB  -- AND A,B = 0xA0
  | andAC  -- AND A,C = 0xA1
  | andAD  -- AND A,D = 0xA2
  | andAE  -- AND A,E = 0xA3
  | andAH  -- AND A,H = 0xA4
  | andAL  -- AND A,L = 0xA5
  | andAAtHl  -- AND A,(HL) = 0xA6
  | andAA  -- AND A,A = 0xA7
  | xorAB  -- XOR A,B = 0xA8
  | xorAC  -- XOR A,C = 0xA9
  | xorAD  -- XOR A,D = 0xAA
  | xorAE  -- XOR A,E = 0xAB
  | xorAH  -- XOR A,H = 0xAC
  | xorAL  -- XOR A,L = 0xAD
  | xorAAtHl  -- XOR A,(HL) = 0xAE
  | xorAA  -- XOR A,A = 0xAF
  | orAB  -- OR A,B = 0xB0
  | orAC  -- OR A,C = 0xB1
  | orAD  -- OR A,D = 0xB2
  | orAE  -- OR A,E = 0xB3
  | orAH  -- OR A,H = 0xB4
  | orAL  -- OR A,L = 0xB5
  | orAAtHl  -- OR A,(HL) = 0xB6
  | orAA  -- OR A,A = 0xB7
  | cpAB  -- CP A,B = 0xB8
  | cpAC  -- CP A,C = 0xB9
  | cpAD  -- CP A,D = 0xBA
  | cpAE  -- CP A,E = 0xBB
  | cpAH  -- CP A,H = 0xBC
  | cpAL  -- CP A,L = 0xBD
  | cpAAtHl  -- CP A,(HL) = 0xBE
  | cpAA  -- CP A,A = 0xBF
  -- Relative jumps (R180, R181)
  | jrE8 (e : Byte)  -- JR e8 = 0x18
  | jrNzE8 (e : Byte)  -- JR NZ,e8 = 0x20
  | jrZE8 (e : Byte)  -- JR Z,e8 = 0x28
  | jrNcE8 (e : Byte)  -- JR NC,e8 = 0x30
  | jrCE8 (e : Byte)  -- JR C,e8 = 0x38
  -- Fatal opcodes (R190 to R193; log entry 16)
  | unmatchedOp10  -- opcode 0x10
  | unmatchedColumn7 (f2 : BitVec 3)  -- opcode (00,f2,111)
  | unimplementedGroup (f2 f3 : BitVec 3)  -- opcode (11,f2,f3) but 0xCB
  | unimplementedCb  -- opcode 0xCB
  deriving DecidableEq, Repr

end Sys2Proof
end

