-- ==== Sys2Proof/WellFormed.lean ====
section
/-! DEFINITION. Which instruction terms are instructions of the core. Every operand's range is its type's, but for the
fields of `unimplementedGroup`: R192 is every `(11,f2,f3)` except 0xCB, which is R193's. -/

namespace Sys2Proof

/-- The well-formed instructions. -/
def Instr.wellFormed : Instr → Bool
  | .nop => true
  | .halt => true
  | .ldAtU16Sp _ => true
  | .ldBcU16 _ => true
  | .ldDeU16 _ => true
  | .ldHlU16 _ => true
  | .ldSpU16 _ => true
  | .ldAtBcA => true
  | .ldAtDeA => true
  | .ldAtHlIncA => true
  | .ldAtHlDecA => true
  | .ldAAtBc => true
  | .ldAAtDe => true
  | .ldAAtHlInc => true
  | .ldAAtHlDec => true
  | .ldBU8 _ => true
  | .ldCU8 _ => true
  | .ldDU8 _ => true
  | .ldEU8 _ => true
  | .ldHU8 _ => true
  | .ldLU8 _ => true
  | .ldAtHlU8 _ => true
  | .ldAU8 _ => true
  | .ldBB => true
  | .ldBC => true
  | .ldBD => true
  | .ldBE => true
  | .ldBH => true
  | .ldBL => true
  | .ldBAtHl => true
  | .ldBA => true
  | .ldCB => true
  | .ldCC => true
  | .ldCD => true
  | .ldCE => true
  | .ldCH => true
  | .ldCL => true
  | .ldCAtHl => true
  | .ldCA => true
  | .ldDB => true
  | .ldDC => true
  | .ldDD => true
  | .ldDE => true
  | .ldDH => true
  | .ldDL => true
  | .ldDAtHl => true
  | .ldDA => true
  | .ldEB => true
  | .ldEC => true
  | .ldED => true
  | .ldEE => true
  | .ldEH => true
  | .ldEL => true
  | .ldEAtHl => true
  | .ldEA => true
  | .ldHB => true
  | .ldHC => true
  | .ldHD => true
  | .ldHE => true
  | .ldHH => true
  | .ldHL => true
  | .ldHAtHl => true
  | .ldHA => true
  | .ldLB => true
  | .ldLC => true
  | .ldLD => true
  | .ldLE => true
  | .ldLH => true
  | .ldLL => true
  | .ldLAtHl => true
  | .ldLA => true
  | .ldAtHlB => true
  | .ldAtHlC => true
  | .ldAtHlD => true
  | .ldAtHlE => true
  | .ldAtHlH => true
  | .ldAtHlL => true
  | .ldAtHlA => true
  | .ldAB => true
  | .ldAC => true
  | .ldAD => true
  | .ldAE => true
  | .ldAH => true
  | .ldAL => true
  | .ldAAtHl => true
  | .ldAA => true
  | .addHlBc => true
  | .addHlDe => true
  | .addHlHl => true
  | .addHlSp => true
  | .incBc => true
  | .incDe => true
  | .incHl => true
  | .incSp => true
  | .decBc => true
  | .decDe => true
  | .decHl => true
  | .decSp => true
  | .incB => true
  | .incC => true
  | .incD => true
  | .incE => true
  | .incH => true
  | .incL => true
  | .incAtHl => true
  | .incA => true
  | .decB => true
  | .decC => true
  | .decD => true
  | .decE => true
  | .decH => true
  | .decL => true
  | .decAtHl => true
  | .decA => true
  | .addAB => true
  | .addAC => true
  | .addAD => true
  | .addAE => true
  | .addAH => true
  | .addAL => true
  | .addAAtHl => true
  | .addAA => true
  | .adcAB => true
  | .adcAC => true
  | .adcAD => true
  | .adcAE => true
  | .adcAH => true
  | .adcAL => true
  | .adcAAtHl => true
  | .adcAA => true
  | .subAB => true
  | .subAC => true
  | .subAD => true
  | .subAE => true
  | .subAH => true
  | .subAL => true
  | .subAAtHl => true
  | .subAA => true
  | .sbcAB => true
  | .sbcAC => true
  | .sbcAD => true
  | .sbcAE => true
  | .sbcAH => true
  | .sbcAL => true
  | .sbcAAtHl => true
  | .sbcAA => true
  | .andAB => true
  | .andAC => true
  | .andAD => true
  | .andAE => true
  | .andAH => true
  | .andAL => true
  | .andAAtHl => true
  | .andAA => true
  | .xorAB => true
  | .xorAC => true
  | .xorAD => true
  | .xorAE => true
  | .xorAH => true
  | .xorAL => true
  | .xorAAtHl => true
  | .xorAA => true
  | .orAB => true
  | .orAC => true
  | .orAD => true
  | .orAE => true
  | .orAH => true
  | .orAL => true
  | .orAAtHl => true
  | .orAA => true
  | .cpAB => true
  | .cpAC => true
  | .cpAD => true
  | .cpAE => true
  | .cpAH => true
  | .cpAL => true
  | .cpAAtHl => true
  | .cpAA => true
  | .jrE8 _ => true
  | .jrNzE8 _ => true
  | .jrZE8 _ => true
  | .jrNcE8 _ => true
  | .jrCE8 _ => true
  | .unmatchedOp10 => true
  | .unmatchedColumn7 _ => true
  | .unimplementedGroup f2 f3 => !(f2 == 1#3 && f3 == 3#3)
  | .unimplementedCb => true

end Sys2Proof
end

