-- ==== Sys2Proof/Decode.lean ====
section
/-! DEFINITION. From bytes to instructions and back. The decoder is the pattern list of R80 (R102) over the three opcode
fields of R71, total over the 256 opcode values; `encode` is written from the same tables. -/

namespace Sys2Proof

/-! ## Bit fields and byte order -/

/-- `hi(w) = w[15:8]` (R9). -/
def hiByte (w : Word) : Byte := w.extractLsb' 8 8

/-- `lo(w) = w[7:0]` (R9). -/
def loByte (w : Word) : Byte := w.extractLsb' 0 8

/-- The pair view of two bytes: the first is the high one (R9, R12). -/
def wordOf (high low : Byte) : Word := high ++ low

/-- `f1 = IR[7:6]` (R71). -/
def field1 (op : Byte) : BitVec 2 := op.extractLsb' 6 2

/-- `f2 = IR[5:3]` (R71). -/
def field2 (op : Byte) : BitVec 3 := op.extractLsb' 3 3

/-- `f3 = IR[2:0]` (R71). -/
def field3 (op : Byte) : BitVec 3 := op.extractLsb' 0 3

/-- `IR = f1 * 64 + f2 * 8 + f3` (R71). -/
def opcodeOf (f1 : BitVec 2) (f2 f3 : BitVec 3) : Byte := f1 ++ f2 ++ f3

/-- `f2[2:1]`: a pair code (R74, R75). -/
def pairCode (f2 : BitVec 3) : BitVec 2 := f2.extractLsb' 1 2

/-- `f2[1:0]`: a condition code (R76). -/
def condCode (f2 : BitVec 3) : BitVec 2 := f2.extractLsb' 0 2

/-- `f2[0]`: the variant selector, 0 for the even values of `f2` (R71). -/
def isOdd (f2 : BitVec 3) : Bool := f2.getLsbD 0

/-! ## Operand tables -/

/-- The r8 table (R73). -/
def R8.ofCode (k : BitVec 3) : R8 :=
  match k.toNat with
  | 0 => .reg .b
  | 1 => .reg .c
  | 2 => .reg .d
  | 3 => .reg .e
  | 4 => .reg .h
  | 5 => .reg .l
  | 6 => .atHl
  | _ => .reg .a

/-- The r16 table (R74). -/
def R16.ofCode (k : BitVec 2) : R16 :=
  match k.toNat with
  | 0 => .bc
  | 1 => .de
  | 2 => .hl
  | _ => .sp

/-- The r16mem table (R75). -/
def R16mem.ofCode (k : BitVec 2) : R16mem :=
  match k.toNat with
  | 0 => .atBc
  | 1 => .atDe
  | 2 => .atHlInc
  | _ => .atHlDec

/-- The condition table (R76). -/
def Cond.ofCode (k : BitVec 2) : Cond :=
  match k.toNat with
  | 0 => .nz
  | 1 => .z
  | 2 => .nc
  | _ => .c

/-- The ALU operation table (R77). -/
def AluOp.ofCode (k : BitVec 3) : AluOp :=
  match k.toNat with
  | 0 => .add
  | 1 => .adc
  | 2 => .sub
  | 3 => .sbc
  | 4 => .and
  | 5 => .xor
  | 6 => .or
  | _ => .cp

/-! ## The instructions of a family, by their operands -/

/-- LD r16,u16 by its pair (R122). -/
def Instr.loadPair : R16 → Word → Instr
  | .bc, nn => .ldBcU16 nn
  | .de, nn => .ldDeU16 nn
  | .hl, nn => .ldHlU16 nn
  | .sp, nn => .ldSpU16 nn

/-- LD (r16mem),A by its address form (R123). -/
def Instr.storeA : R16mem → Instr
  | .atBc => .ldAtBcA
  | .atDe => .ldAtDeA
  | .atHlInc => .ldAtHlIncA
  | .atHlDec => .ldAtHlDecA

/-- LD A,(r16mem) by its address form (R124). -/
def Instr.loadA : R16mem → Instr
  | .atBc => .ldAAtBc
  | .atDe => .ldAAtDe
  | .atHlInc => .ldAAtHlInc
  | .atHlDec => .ldAAtHlDec

/-- LD r8,u8 by its destination (R125). -/
def Instr.loadImm8 : R8 → Byte → Instr
  | .reg .b, n => .ldBU8 n
  | .reg .c, n => .ldCU8 n
  | .reg .d, n => .ldDU8 n
  | .reg .e, n => .ldEU8 n
  | .reg .h, n => .ldHU8 n
  | .reg .l, n => .ldLU8 n
  | .atHl, n => .ldAtHlU8 n
  | .reg .a, n => .ldAU8 n

/-- The `(01,dst,src)` block by destination and source (R126); its slot for (HL),(HL) is HALT (R105). -/
def Instr.move8 : R8 → R8 → Instr
  | .reg .b, .reg .b => .ldBB
  | .reg .b, .reg .c => .ldBC
  | .reg .b, .reg .d => .ldBD
  | .reg .b, .reg .e => .ldBE
  | .reg .b, .reg .h => .ldBH
  | .reg .b, .reg .l => .ldBL
  | .reg .b, .atHl => .ldBAtHl
  | .reg .b, .reg .a => .ldBA
  | .reg .c, .reg .b => .ldCB
  | .reg .c, .reg .c => .ldCC
  | .reg .c, .reg .d => .ldCD
  | .reg .c, .reg .e => .ldCE
  | .reg .c, .reg .h => .ldCH
  | .reg .c, .reg .l => .ldCL
  | .reg .c, .atHl => .ldCAtHl
  | .reg .c, .reg .a => .ldCA
  | .reg .d, .reg .b => .ldDB
  | .reg .d, .reg .c => .ldDC
  | .reg .d, .reg .d => .ldDD
  | .reg .d, .reg .e => .ldDE
  | .reg .d, .reg .h => .ldDH
  | .reg .d, .reg .l => .ldDL
  | .reg .d, .atHl => .ldDAtHl
  | .reg .d, .reg .a => .ldDA
  | .reg .e, .reg .b => .ldEB
  | .reg .e, .reg .c => .ldEC
  | .reg .e, .reg .d => .ldED
  | .reg .e, .reg .e => .ldEE
  | .reg .e, .reg .h => .ldEH
  | .reg .e, .reg .l => .ldEL
  | .reg .e, .atHl => .ldEAtHl
  | .reg .e, .reg .a => .ldEA
  | .reg .h, .reg .b => .ldHB
  | .reg .h, .reg .c => .ldHC
  | .reg .h, .reg .d => .ldHD
  | .reg .h, .reg .e => .ldHE
  | .reg .h, .reg .h => .ldHH
  | .reg .h, .reg .l => .ldHL
  | .reg .h, .atHl => .ldHAtHl
  | .reg .h, .reg .a => .ldHA
  | .reg .l, .reg .b => .ldLB
  | .reg .l, .reg .c => .ldLC
  | .reg .l, .reg .d => .ldLD
  | .reg .l, .reg .e => .ldLE
  | .reg .l, .reg .h => .ldLH
  | .reg .l, .reg .l => .ldLL
  | .reg .l, .atHl => .ldLAtHl
  | .reg .l, .reg .a => .ldLA
  | .atHl, .reg .b => .ldAtHlB
  | .atHl, .reg .c => .ldAtHlC
  | .atHl, .reg .d => .ldAtHlD
  | .atHl, .reg .e => .ldAtHlE
  | .atHl, .reg .h => .ldAtHlH
  | .atHl, .reg .l => .ldAtHlL
  | .atHl, .atHl => .halt
  | .atHl, .reg .a => .ldAtHlA
  | .reg .a, .reg .b => .ldAB
  | .reg .a, .reg .c => .ldAC
  | .reg .a, .reg .d => .ldAD
  | .reg .a, .reg .e => .ldAE
  | .reg .a, .reg .h => .ldAH
  | .reg .a, .reg .l => .ldAL
  | .reg .a, .atHl => .ldAAtHl
  | .reg .a, .reg .a => .ldAA

/-- ADD HL,r16 by its right operand (R140). -/
def Instr.addHl : R16 → Instr
  | .bc => .addHlBc
  | .de => .addHlDe
  | .hl => .addHlHl
  | .sp => .addHlSp

/-- INC r16 by its operand (R141). -/
def Instr.inc16 : R16 → Instr
  | .bc => .incBc
  | .de => .incDe
  | .hl => .incHl
  | .sp => .incSp

/-- DEC r16 by its operand (R142). -/
def Instr.dec16 : R16 → Instr
  | .bc => .decBc
  | .de => .decDe
  | .hl => .decHl
  | .sp => .decSp

/-- INC r8 by its operand (R153). -/
def Instr.inc8 : R8 → Instr
  | .reg .b => .incB
  | .reg .c => .incC
  | .reg .d => .incD
  | .reg .e => .incE
  | .reg .h => .incH
  | .reg .l => .incL
  | .atHl => .incAtHl
  | .reg .a => .incA

/-- DEC r8 by its operand (R154). -/
def Instr.dec8 : R8 → Instr
  | .reg .b => .decB
  | .reg .c => .decC
  | .reg .d => .decD
  | .reg .e => .decE
  | .reg .h => .decH
  | .reg .l => .decL
  | .atHl => .decAtHl
  | .reg .a => .decA

/-- The ALU group by operation and right operand (R155 to R163). -/
def Instr.alu : AluOp → R8 → Instr
  | .add, .reg .b => .addAB
  | .add, .reg .c => .addAC
  | .add, .reg .d => .addAD
  | .add, .reg .e => .addAE
  | .add, .reg .h => .addAH
  | .add, .reg .l => .addAL
  | .add, .atHl => .addAAtHl
  | .add, .reg .a => .addAA
  | .adc, .reg .b => .adcAB
  | .adc, .reg .c => .adcAC
  | .adc, .reg .d => .adcAD
  | .adc, .reg .e => .adcAE
  | .adc, .reg .h => .adcAH
  | .adc, .reg .l => .adcAL
  | .adc, .atHl => .adcAAtHl
  | .adc, .reg .a => .adcAA
  | .sub, .reg .b => .subAB
  | .sub, .reg .c => .subAC
  | .sub, .reg .d => .subAD
  | .sub, .reg .e => .subAE
  | .sub, .reg .h => .subAH
  | .sub, .reg .l => .subAL
  | .sub, .atHl => .subAAtHl
  | .sub, .reg .a => .subAA
  | .sbc, .reg .b => .sbcAB
  | .sbc, .reg .c => .sbcAC
  | .sbc, .reg .d => .sbcAD
  | .sbc, .reg .e => .sbcAE
  | .sbc, .reg .h => .sbcAH
  | .sbc, .reg .l => .sbcAL
  | .sbc, .atHl => .sbcAAtHl
  | .sbc, .reg .a => .sbcAA
  | .and, .reg .b => .andAB
  | .and, .reg .c => .andAC
  | .and, .reg .d => .andAD
  | .and, .reg .e => .andAE
  | .and, .reg .h => .andAH
  | .and, .reg .l => .andAL
  | .and, .atHl => .andAAtHl
  | .and, .reg .a => .andAA
  | .xor, .reg .b => .xorAB
  | .xor, .reg .c => .xorAC
  | .xor, .reg .d => .xorAD
  | .xor, .reg .e => .xorAE
  | .xor, .reg .h => .xorAH
  | .xor, .reg .l => .xorAL
  | .xor, .atHl => .xorAAtHl
  | .xor, .reg .a => .xorAA
  | .or, .reg .b => .orAB
  | .or, .reg .c => .orAC
  | .or, .reg .d => .orAD
  | .or, .reg .e => .orAE
  | .or, .reg .h => .orAH
  | .or, .reg .l => .orAL
  | .or, .atHl => .orAAtHl
  | .or, .reg .a => .orAA
  | .cp, .reg .b => .cpAB
  | .cp, .reg .c => .cpAC
  | .cp, .reg .d => .cpAD
  | .cp, .reg .e => .cpAE
  | .cp, .reg .h => .cpAH
  | .cp, .reg .l => .cpAL
  | .cp, .atHl => .cpAAtHl
  | .cp, .reg .a => .cpAA

/-- JR cc,e8 by its condition (R181). -/
def Instr.jumpRelativeIf : Cond → Byte → Instr
  | .nz, e => .jrNzE8 e
  | .z, e => .jrZE8 e
  | .nc, e => .jrNcE8 e
  | .c, e => .jrCE8 e

/-! ## The decoder -/

/-- The `(00,f2,f3)` quarter (R80 rows 1 to 13, 18 and 19). -/
def decodeQuarter0 (f2 f3 : BitVec 3) (b2 b3 : Byte) : Instr :=
  match f3.toNat with
  | 0 =>
    match f2.toNat with
    | 0 => .nop
    | 1 => .ldAtU16Sp (wordOf b3 b2)
    | 2 => .unmatchedOp10
    | 3 => .jrE8 b2
    | _ => .jumpRelativeIf (.ofCode (condCode f2)) b2
  | 1 => bif isOdd f2 then .addHl (.ofCode (pairCode f2)) else .loadPair (.ofCode (pairCode f2)) (wordOf b3 b2)
  | 2 => bif isOdd f2 then .loadA (.ofCode (pairCode f2)) else .storeA (.ofCode (pairCode f2))
  | 3 => bif isOdd f2 then .dec16 (.ofCode (pairCode f2)) else .inc16 (.ofCode (pairCode f2))
  | 4 => .inc8 (.ofCode f2)
  | 5 => .dec8 (.ofCode f2)
  | 6 => .loadImm8 (.ofCode f2) b2
  | _ => .unmatchedColumn7 f2

/-- The `(11,f2,f3)` quarter (R80 row 17): 0xCB is told apart from the rest of the group (R192, R193). -/
def decodeQuarter3 (f2 f3 : BitVec 3) : Instr :=
  bif f2 == 1#3 && f3 == 3#3 then .unimplementedCb else .unimplementedGroup f2 f3

/-- The dispatch as a total function of the three latches (R80, R102): the opcode byte alone chooses the instruction, and
an immediate is `b2`, or `b3` and `b2` with `b2` the low byte (R78). -/
def decodeLatches (ir b2 b3 : Byte) : Instr :=
  match (field1 ir).toNat with
  | 0 => decodeQuarter0 (field2 ir) (field3 ir) b2 b3
  | 1 => .move8 (.ofCode (field2 ir)) (.ofCode (field3 ir))
  | 2 => .alu (.ofCode (field2 ir)) (.ofCode (field3 ir))
  | _ => decodeQuarter3 (field2 ir) (field3 ir)

/-- The number of immediate bytes after an opcode, from the opcode byte alone (R79). -/
def immediateCount (op : Byte) : Nat :=
  match (field1 op).toNat, (field3 op).toNat with
  | 0, 0 =>
    match (field2 op).toNat with
    | 0 => 0
    | 1 => 2
    | 2 => 0
    | _ => 1
  | 0, 1 => bif isOdd (field2 op) then 0 else 2
  | 0, 6 => 1
  | _, _ => 0

/-- The length of an instruction in bytes, from its opcode byte alone (R70, R79); a fatal opcode counts 1 (R72). -/
def opcodeLength (op : Byte) : Nat := 1 + immediateCount op

/-- Why a list of bytes is refused. No step meets this: the fetch always latches three bytes (R101). -/
inductive DecodeError where
  /-- The list ends before the instruction does (log entry 17). -/
  | truncated
  deriving DecidableEq, Repr

/-- The first instruction of a list of bytes, and the bytes after it. -/
def decode : List Byte → Except DecodeError (Instr × List Byte)
  | [] => .error .truncated
  | op :: rest =>
    match immediateCount op, rest with
    | 0, rest => .ok (decodeLatches op 0x00#8 0x00#8, rest)
    | 1, b2 :: rest => .ok (decodeLatches op b2 0x00#8, rest)
    | 2, b2 :: b3 :: rest => .ok (decodeLatches op b2 b3, rest)
    | _, _ => .error .truncated

/-- The first three bytes of a word that numbers bit 0 as the least significant bit of the first byte; bits from `nbits` on
read as 0. -/
def tableWordBytes (nbits w : Nat) : List Byte :=
  let v := w % 2 ^ nbits
  [BitVec.ofNat 8 v, BitVec.ofNat 8 (v / 256), BitVec.ofNat 8 (v / 65536)]

/-- The instruction the decoder reads from a word numbered as spec/opcode_table.json numbers its rows. -/
def decodeTableWord (nbits w : Nat) : Option Instr :=
  match decode (tableWordBytes nbits w) with
  | .ok (i, _) => some i
  | .error _ => none

/-! ## The encoder -/

/-- The bytes of an instruction, opcode first, a 16-bit immediate low byte first (R70, R72, R78, R81). -/
def Instr.encode : Instr → List Byte
  | .nop => [opcodeOf 0#2 0#3 0#3]
  | .halt => [opcodeOf 1#2 6#3 6#3]
  | .ldAtU16Sp nn => [opcodeOf 0#2 1#3 0#3, loByte nn, hiByte nn]
  | .ldBcU16 nn => [opcodeOf 0#2 0#3 1#3, loByte nn, hiByte nn]
  | .ldDeU16 nn => [opcodeOf 0#2 2#3 1#3, loByte nn, hiByte nn]
  | .ldHlU16 nn => [opcodeOf 0#2 4#3 1#3, loByte nn, hiByte nn]
  | .ldSpU16 nn => [opcodeOf 0#2 6#3 1#3, loByte nn, hiByte nn]
  | .ldAtBcA => [opcodeOf 0#2 0#3 2#3]
  | .ldAtDeA => [opcodeOf 0#2 2#3 2#3]
  | .ldAtHlIncA => [opcodeOf 0#2 4#3 2#3]
  | .ldAtHlDecA => [opcodeOf 0#2 6#3 2#3]
  | .ldAAtBc => [opcodeOf 0#2 1#3 2#3]
  | .ldAAtDe => [opcodeOf 0#2 3#3 2#3]
  | .ldAAtHlInc => [opcodeOf 0#2 5#3 2#3]
  | .ldAAtHlDec => [opcodeOf 0#2 7#3 2#3]
  | .ldBU8 n => [opcodeOf 0#2 0#3 6#3, n]
  | .ldCU8 n => [opcodeOf 0#2 1#3 6#3, n]
  | .ldDU8 n => [opcodeOf 0#2 2#3 6#3, n]
  | .ldEU8 n => [opcodeOf 0#2 3#3 6#3, n]
  | .ldHU8 n => [opcodeOf 0#2 4#3 6#3, n]
  | .ldLU8 n => [opcodeOf 0#2 5#3 6#3, n]
  | .ldAtHlU8 n => [opcodeOf 0#2 6#3 6#3, n]
  | .ldAU8 n => [opcodeOf 0#2 7#3 6#3, n]
  | .ldBB => [opcodeOf 1#2 0#3 0#3]
  | .ldBC => [opcodeOf 1#2 0#3 1#3]
  | .ldBD => [opcodeOf 1#2 0#3 2#3]
  | .ldBE => [opcodeOf 1#2 0#3 3#3]
  | .ldBH => [opcodeOf 1#2 0#3 4#3]
  | .ldBL => [opcodeOf 1#2 0#3 5#3]
  | .ldBAtHl => [opcodeOf 1#2 0#3 6#3]
  | .ldBA => [opcodeOf 1#2 0#3 7#3]
  | .ldCB => [opcodeOf 1#2 1#3 0#3]
  | .ldCC => [opcodeOf 1#2 1#3 1#3]
  | .ldCD => [opcodeOf 1#2 1#3 2#3]
  | .ldCE => [opcodeOf 1#2 1#3 3#3]
  | .ldCH => [opcodeOf 1#2 1#3 4#3]
  | .ldCL => [opcodeOf 1#2 1#3 5#3]
  | .ldCAtHl => [opcodeOf 1#2 1#3 6#3]
  | .ldCA => [opcodeOf 1#2 1#3 7#3]
  | .ldDB => [opcodeOf 1#2 2#3 0#3]
  | .ldDC => [opcodeOf 1#2 2#3 1#3]
  | .ldDD => [opcodeOf 1#2 2#3 2#3]
  | .ldDE => [opcodeOf 1#2 2#3 3#3]
  | .ldDH => [opcodeOf 1#2 2#3 4#3]
  | .ldDL => [opcodeOf 1#2 2#3 5#3]
  | .ldDAtHl => [opcodeOf 1#2 2#3 6#3]
  | .ldDA => [opcodeOf 1#2 2#3 7#3]
  | .ldEB => [opcodeOf 1#2 3#3 0#3]
  | .ldEC => [opcodeOf 1#2 3#3 1#3]
  | .ldED => [opcodeOf 1#2 3#3 2#3]
  | .ldEE => [opcodeOf 1#2 3#3 3#3]
  | .ldEH => [opcodeOf 1#2 3#3 4#3]
  | .ldEL => [opcodeOf 1#2 3#3 5#3]
  | .ldEAtHl => [opcodeOf 1#2 3#3 6#3]
  | .ldEA => [opcodeOf 1#2 3#3 7#3]
  | .ldHB => [opcodeOf 1#2 4#3 0#3]
  | .ldHC => [opcodeOf 1#2 4#3 1#3]
  | .ldHD => [opcodeOf 1#2 4#3 2#3]
  | .ldHE => [opcodeOf 1#2 4#3 3#3]
  | .ldHH => [opcodeOf 1#2 4#3 4#3]
  | .ldHL => [opcodeOf 1#2 4#3 5#3]
  | .ldHAtHl => [opcodeOf 1#2 4#3 6#3]
  | .ldHA => [opcodeOf 1#2 4#3 7#3]
  | .ldLB => [opcodeOf 1#2 5#3 0#3]
  | .ldLC => [opcodeOf 1#2 5#3 1#3]
  | .ldLD => [opcodeOf 1#2 5#3 2#3]
  | .ldLE => [opcodeOf 1#2 5#3 3#3]
  | .ldLH => [opcodeOf 1#2 5#3 4#3]
  | .ldLL => [opcodeOf 1#2 5#3 5#3]
  | .ldLAtHl => [opcodeOf 1#2 5#3 6#3]
  | .ldLA => [opcodeOf 1#2 5#3 7#3]
  | .ldAtHlB => [opcodeOf 1#2 6#3 0#3]
  | .ldAtHlC => [opcodeOf 1#2 6#3 1#3]
  | .ldAtHlD => [opcodeOf 1#2 6#3 2#3]
  | .ldAtHlE => [opcodeOf 1#2 6#3 3#3]
  | .ldAtHlH => [opcodeOf 1#2 6#3 4#3]
  | .ldAtHlL => [opcodeOf 1#2 6#3 5#3]
  | .ldAtHlA => [opcodeOf 1#2 6#3 7#3]
  | .ldAB => [opcodeOf 1#2 7#3 0#3]
  | .ldAC => [opcodeOf 1#2 7#3 1#3]
  | .ldAD => [opcodeOf 1#2 7#3 2#3]
  | .ldAE => [opcodeOf 1#2 7#3 3#3]
  | .ldAH => [opcodeOf 1#2 7#3 4#3]
  | .ldAL => [opcodeOf 1#2 7#3 5#3]
  | .ldAAtHl => [opcodeOf 1#2 7#3 6#3]
  | .ldAA => [opcodeOf 1#2 7#3 7#3]
  | .addHlBc => [opcodeOf 0#2 1#3 1#3]
  | .addHlDe => [opcodeOf 0#2 3#3 1#3]
  | .addHlHl => [opcodeOf 0#2 5#3 1#3]
  | .addHlSp => [opcodeOf 0#2 7#3 1#3]
  | .incBc => [opcodeOf 0#2 0#3 3#3]
  | .incDe => [opcodeOf 0#2 2#3 3#3]
  | .incHl => [opcodeOf 0#2 4#3 3#3]
  | .incSp => [opcodeOf 0#2 6#3 3#3]
  | .decBc => [opcodeOf 0#2 1#3 3#3]
  | .decDe => [opcodeOf 0#2 3#3 3#3]
  | .decHl => [opcodeOf 0#2 5#3 3#3]
  | .decSp => [opcodeOf 0#2 7#3 3#3]
  | .incB => [opcodeOf 0#2 0#3 4#3]
  | .incC => [opcodeOf 0#2 1#3 4#3]
  | .incD => [opcodeOf 0#2 2#3 4#3]
  | .incE => [opcodeOf 0#2 3#3 4#3]
  | .incH => [opcodeOf 0#2 4#3 4#3]
  | .incL => [opcodeOf 0#2 5#3 4#3]
  | .incAtHl => [opcodeOf 0#2 6#3 4#3]
  | .incA => [opcodeOf 0#2 7#3 4#3]
  | .decB => [opcodeOf 0#2 0#3 5#3]
  | .decC => [opcodeOf 0#2 1#3 5#3]
  | .decD => [opcodeOf 0#2 2#3 5#3]
  | .decE => [opcodeOf 0#2 3#3 5#3]
  | .decH => [opcodeOf 0#2 4#3 5#3]
  | .decL => [opcodeOf 0#2 5#3 5#3]
  | .decAtHl => [opcodeOf 0#2 6#3 5#3]
  | .decA => [opcodeOf 0#2 7#3 5#3]
  | .addAB => [opcodeOf 2#2 0#3 0#3]
  | .addAC => [opcodeOf 2#2 0#3 1#3]
  | .addAD => [opcodeOf 2#2 0#3 2#3]
  | .addAE => [opcodeOf 2#2 0#3 3#3]
  | .addAH => [opcodeOf 2#2 0#3 4#3]
  | .addAL => [opcodeOf 2#2 0#3 5#3]
  | .addAAtHl => [opcodeOf 2#2 0#3 6#3]
  | .addAA => [opcodeOf 2#2 0#3 7#3]
  | .adcAB => [opcodeOf 2#2 1#3 0#3]
  | .adcAC => [opcodeOf 2#2 1#3 1#3]
  | .adcAD => [opcodeOf 2#2 1#3 2#3]
  | .adcAE => [opcodeOf 2#2 1#3 3#3]
  | .adcAH => [opcodeOf 2#2 1#3 4#3]
  | .adcAL => [opcodeOf 2#2 1#3 5#3]
  | .adcAAtHl => [opcodeOf 2#2 1#3 6#3]
  | .adcAA => [opcodeOf 2#2 1#3 7#3]
  | .subAB => [opcodeOf 2#2 2#3 0#3]
  | .subAC => [opcodeOf 2#2 2#3 1#3]
  | .subAD => [opcodeOf 2#2 2#3 2#3]
  | .subAE => [opcodeOf 2#2 2#3 3#3]
  | .subAH => [opcodeOf 2#2 2#3 4#3]
  | .subAL => [opcodeOf 2#2 2#3 5#3]
  | .subAAtHl => [opcodeOf 2#2 2#3 6#3]
  | .subAA => [opcodeOf 2#2 2#3 7#3]
  | .sbcAB => [opcodeOf 2#2 3#3 0#3]
  | .sbcAC => [opcodeOf 2#2 3#3 1#3]
  | .sbcAD => [opcodeOf 2#2 3#3 2#3]
  | .sbcAE => [opcodeOf 2#2 3#3 3#3]
  | .sbcAH => [opcodeOf 2#2 3#3 4#3]
  | .sbcAL => [opcodeOf 2#2 3#3 5#3]
  | .sbcAAtHl => [opcodeOf 2#2 3#3 6#3]
  | .sbcAA => [opcodeOf 2#2 3#3 7#3]
  | .andAB => [opcodeOf 2#2 4#3 0#3]
  | .andAC => [opcodeOf 2#2 4#3 1#3]
  | .andAD => [opcodeOf 2#2 4#3 2#3]
  | .andAE => [opcodeOf 2#2 4#3 3#3]
  | .andAH => [opcodeOf 2#2 4#3 4#3]
  | .andAL => [opcodeOf 2#2 4#3 5#3]
  | .andAAtHl => [opcodeOf 2#2 4#3 6#3]
  | .andAA => [opcodeOf 2#2 4#3 7#3]
  | .xorAB => [opcodeOf 2#2 5#3 0#3]
  | .xorAC => [opcodeOf 2#2 5#3 1#3]
  | .xorAD => [opcodeOf 2#2 5#3 2#3]
  | .xorAE => [opcodeOf 2#2 5#3 3#3]
  | .xorAH => [opcodeOf 2#2 5#3 4#3]
  | .xorAL => [opcodeOf 2#2 5#3 5#3]
  | .xorAAtHl => [opcodeOf 2#2 5#3 6#3]
  | .xorAA => [opcodeOf 2#2 5#3 7#3]
  | .orAB => [opcodeOf 2#2 6#3 0#3]
  | .orAC => [opcodeOf 2#2 6#3 1#3]
  | .orAD => [opcodeOf 2#2 6#3 2#3]
  | .orAE => [opcodeOf 2#2 6#3 3#3]
  | .orAH => [opcodeOf 2#2 6#3 4#3]
  | .orAL => [opcodeOf 2#2 6#3 5#3]
  | .orAAtHl => [opcodeOf 2#2 6#3 6#3]
  | .orAA => [opcodeOf 2#2 6#3 7#3]
  | .cpAB => [opcodeOf 2#2 7#3 0#3]
  | .cpAC => [opcodeOf 2#2 7#3 1#3]
  | .cpAD => [opcodeOf 2#2 7#3 2#3]
  | .cpAE => [opcodeOf 2#2 7#3 3#3]
  | .cpAH => [opcodeOf 2#2 7#3 4#3]
  | .cpAL => [opcodeOf 2#2 7#3 5#3]
  | .cpAAtHl => [opcodeOf 2#2 7#3 6#3]
  | .cpAA => [opcodeOf 2#2 7#3 7#3]
  | .jrE8 e => [opcodeOf 0#2 3#3 0#3, e]
  | .jrNzE8 e => [opcodeOf 0#2 4#3 0#3, e]
  | .jrZE8 e => [opcodeOf 0#2 5#3 0#3, e]
  | .jrNcE8 e => [opcodeOf 0#2 6#3 0#3, e]
  | .jrCE8 e => [opcodeOf 0#2 7#3 0#3, e]
  | .unmatchedOp10 => [opcodeOf 0#2 2#3 0#3]
  | .unmatchedColumn7 f2 => [opcodeOf 0#2 f2 7#3]
  | .unimplementedGroup f2 f3 => [opcodeOf 3#2 f2 f3]
  | .unimplementedCb => [opcodeOf 3#2 1#3 3#3]

/-- The length of an instruction in bytes (R79). -/
def Instr.length (i : Instr) : Nat := i.encode.length

end Sys2Proof
end

