-- ==== Sys2Proof/Config.lean ====
section
/-! DEFINITION. The parameters of the core that stay arguments of the model (R4). `ROM_IMAGE` is the argument of
`State.loadRom`; `RAM_INIT` is the argument of `State.create`; `GAP_READ` and `JR_BASE` are the fields of `Config`, which
the state carries and no step changes, so that a statement about every state holds for every value of them (log entry 1). -/

namespace Sys2Proof

/-- `JR_BASE` (R4, R180): what is added to the address of a taken JR's opcode byte before the offset; 2 is the normative
value, 1 is offered only to match the original code (log entry 9). -/
inductive JrBase where
  | one
  | two
  deriving DecidableEq, Repr

/-- The number a `JrBase` stands for. -/
def JrBase.value : JrBase → Word
  | .one => 1#16
  | .two => 2#16

/-- The parameters a step depends on, with the spec's defaults. -/
structure Config where
  /-- `GAP_READ`: what a read of a gap address returns (R46). -/
  gapRead : Byte := 0xFF#8
  /-- `JR_BASE`. -/
  jrBase : JrBase := .two
  deriving DecidableEq, Repr

/-- `RAM_INIT` (R234): the contents of the three RAM stores at creation. -/
structure RamInit where
  xram : Vector Byte 8192
  wram0 : Vector Byte 4096
  wram1 : Vector Byte 4096
  deriving DecidableEq, Repr

/-- The default `RAM_INIT`: every byte 0x00 (R234). -/
def RamInit.zero : RamInit where
  xram := Vector.replicate 8192 0x00#8
  wram0 := Vector.replicate 4096 0x00#8
  wram1 := Vector.replicate 4096 0x00#8

end Sys2Proof
end

