-- ==== Sys2Proof/Machine/State.lean ====
section
/-! DEFINITION. The machine's state (spec/10_state.md), the reasons a step or a host command stops, and the state at creation. -/

namespace Sys2Proof.Machine

/-- The four flags (R20): Zero, Subtract, HalfCarry, Carry. -/
structure Flags where
  z : Bool
  n : Bool
  h : Bool
  c : Bool
  deriving DecidableEq, Repr

/-- The kinds of fatal error a status can record (R28, R200). -/
inductive FatalKind where
  /-- One of the nine opcodes no pattern matches (R201). -/
  | unmatched
  /-- One of the 64 opcodes of the `(11,...)` group (R202). -/
  | unimplemented
  /-- A register code outside its table (R203); nothing raises it (log entry 14). -/
  | resolverError
  deriving DecidableEq, Repr

/-- The status (R28): running, or the terminal report of a fatal error. -/
inductive Status where
  | running
  | faulted (kind : FatalKind) (opcode : Byte)
  deriving DecidableEq, Repr

/-- The phase (R29): which half of a step the host may ask for next. -/
inductive Phase where
  | awaitFetch
  | awaitExecute
  deriving DecidableEq, Repr

/-- The five backing stores (R26) as one list of bytes, keyed by bus address, which is one to one on stored bytes (R41,
R55; log entry 3): addresses strictly rising, every address in a stored region, no byte equal to what an unlisted
address reads as (`Memory.wf`). -/
abbrev Memory := List Host.Cell

/-- The state of the core. Field names are the spec's. -/
structure State where
  a : Byte
  b : Byte
  c : Byte
  d : Byte
  e : Byte
  h : Byte
  l : Byte
  flags : Flags
  sp : Word
  pc : Word
  /-- `IR`, the opcode latch (R27). -/
  ir : Byte
  /-- `B2`, the first immediate latch (R27). -/
  b2 : Byte
  /-- `B3`, the second immediate latch (R27). -/
  b3 : Byte
  mem : Memory
  status : Status
  phase : Phase
  /-- Whether a LOAD_ROM has succeeded, which R241 asks of FETCH and LOAD_ROM (log entry 5). -/
  romLoaded : Bool
  /-- The parameters `GAP_READ` and `JR_BASE`, fixed for the machine (log entry 1). -/
  config : Config
  deriving DecidableEq, Repr

/-- Why the machine stops with an error that is no state of it. -/
inductive Fault where
  /-- `RomLoadError` (R204): raised by the host command LOAD_ROM for an image shorter than 32,768 bytes, never by a step.
  Safe: nothing of the core changes (log entry 7). -/
  | romLoadError
  deriving DecidableEq, Repr

/-- Why a command is refused with no state change; the order in which the reasons are asked is log entry 15. -/
inductive Refusal where
  /-- `exec`: the instruction has no meaning yet. Safe. No arm says it. -/
  | notModelled (mnemonic : String)
  /-- LOAD_ROM, FETCH, EXECUTE and `step` in the status FAULTED (R209, R241). Safe: the spec refuses the command. -/
  | coreFaulted
  /-- FETCH and `step` before any LOAD_ROM has succeeded (R241). Safe: the spec refuses the command. -/
  | romNotLoaded
  /-- LOAD_ROM after a successful LOAD_ROM, and so after any FETCH (R241). Safe: the spec refuses the command. -/
  | romAlreadyLoaded
  /-- FETCH and `step` in the phase AWAIT_EXECUTE (R241). Safe: the spec refuses the command. -/
  | executeAwaited
  /-- EXECUTE in the phase AWAIT_FETCH (R241). Safe: the spec refuses the command. -/
  | fetchAwaited
  deriving DecidableEq, Repr

/-- The state after CREATE with the default parameters (R32, R230): every field of the CPU state zero, RUNNING,
AWAIT_FETCH, every stored byte 0x00, and no ROM loaded (log entry 4). -/
def State.reset : State where
  a := 0x00#8
  b := 0x00#8
  c := 0x00#8
  d := 0x00#8
  e := 0x00#8
  h := 0x00#8
  l := 0x00#8
  flags := { z := false, n := false, h := false, c := false }
  sp := 0x0000#16
  pc := 0x0000#16
  ir := 0x00#8
  b2 := 0x00#8
  b3 := 0x00#8
  mem := []
  status := .running
  phase := .awaitFetch
  romLoaded := false
  config := {}

end Sys2Proof.Machine
end

