-- ==== Sys2Proof/Machine/Ops.lean ====
section
/-! DEFINITION. The named operations over memory, registers and status that the meanings share: the bus (spec/20_memory.md),
the register file (R14), the pc (R18, R19) and taking a fatal error (R206). There is no return from one (R209). -/

namespace Sys2Proof.Machine

/-- What a meaning answers. -/
abbrev Result := Host.Outcome State Fault Refusal

/-! ## The list of stored bytes -/

/-- What an address the memory does not list reads as: the default of `RAM_INIT`, and the ROM banks before the load (R234;
log entry 2). -/
def Memory.unlisted : Byte := 0x00#8

/-- The byte at an address of the list. -/
def Memory.byteAt : Memory → Nat → Byte
  | [], _ => Memory.unlisted
  | (k, v) :: rest, addr => if k = addr then v else Memory.byteAt rest addr

/-- The list with a byte put at an address, in canonical form. -/
def Memory.putByte : Memory → Nat → Byte → Memory
  | [], addr, v => if v = Memory.unlisted then [] else [(addr, v)]
  | (k, w) :: rest, addr, v =>
    if addr < k then
      if v = Memory.unlisted then (k, w) :: rest else (addr, v) :: (k, w) :: rest
    else if addr = k then
      if v = Memory.unlisted then rest else (addr, v) :: rest
    else (k, w) :: Memory.putByte rest addr v

/-- The list with bytes put at consecutive addresses. -/
def Memory.putBytes (m : Memory) (base : Nat) : List Byte → Memory
  | [] => m
  | v :: vs => Memory.putBytes (Memory.putByte m base v) (base + 1) vs

/-! ## The regions of the address space -/

/-- The twelve rows of R41. -/
inductive Region where
  | fixedRom | switchableRom | videoRam | externalRam | workRam0 | workRamN
  | gapE000 | oam | gapFea0 | ioRegisters | highRam | interruptEnable
  deriving DecidableEq, Repr

/-- The kinds of region (R41). -/
inductive RegionKind where
  | stored | stub | gap
  deriving DecidableEq, Repr

/-- The kind of a region (R41). -/
def Region.kind : Region → RegionKind
  | .fixedRom | .switchableRom | .externalRam | .workRam0 | .workRamN => .stored
  | .videoRam | .oam | .ioRegisters | .highRam | .interruptEnable => .stub
  | .gapE000 | .gapFea0 => .gap

/-- The region of an address (R41, R42). -/
def regionOf (addr : Word) : Region :=
  if addr ≤ 0x3FFF#16 then .fixedRom
  else if addr ≤ 0x7FFF#16 then .switchableRom
  else if addr ≤ 0x9FFF#16 then .videoRam
  else if addr ≤ 0xBFFF#16 then .externalRam
  else if addr ≤ 0xCFFF#16 then .workRam0
  else if addr ≤ 0xDFFF#16 then .workRamN
  else if addr ≤ 0xFDFF#16 then .gapE000
  else if addr ≤ 0xFE9F#16 then .oam
  else if addr ≤ 0xFEFF#16 then .gapFea0
  else if addr ≤ 0xFF7F#16 then .ioRegisters
  else if addr ≤ 0xFFFE#16 then .highRam
  else .interruptEnable

/-- Whether an address has a backing store (R41). -/
def isStored (addr : Word) : Bool := (regionOf addr).kind == .stored

/-- The canonical form of memory: addresses strictly rising, each of them stored, no byte equal to what an unlisted
address reads as. -/
abbrev Memory.wf (m : Memory) : Prop :=
  m.Pairwise (fun p q => p.1 < q.1) ∧
    ∀ p ∈ m, p.1 < 0x10000 ∧ isStored (BitVec.ofNat 16 p.1) = true ∧ p.2 ≠ Memory.unlisted

/-- The five backing stores (R26). -/
inductive Store where
  | rom0 | rom1 | xram | wram0 | wram1
  deriving DecidableEq, Repr

/-- The bus address of a store's byte 0 (R41). -/
def Store.base : Store → Nat
  | .rom0 => 0x0000
  | .rom1 => 0x4000
  | .xram => 0xA000
  | .wram0 => 0xC000
  | .wram1 => 0xD000

/-- The number of bytes of a store (R26). -/
def Store.size : Store → Nat
  | .rom0 | .rom1 => 16384
  | .xram => 8192
  | .wram0 | .wram1 => 4096

/-- Byte `i` of a store: `ROM0[i]` and so on, for `i` below the store's size (R41). -/
def State.storeByte (s : State) (st : Store) (i : Nat) : Byte := Memory.byteAt s.mem (st.base + i)

/-! ## The bus -/

/-- `MemRead(addr, 1)` (R42). -/
def State.memRead (s : State) (addr : Word) : Byte :=
  match (regionOf addr).kind with
  | .stored => Memory.byteAt s.mem addr.toNat
  | .stub => 0x00#8
  | .gap => s.config.gapRead

/-- `MemWrite(addr, 1, v)` (R43). -/
def State.memWrite (s : State) (addr : Word) (v : Byte) : State :=
  match (regionOf addr).kind with
  | .stored => { s with mem := Memory.putByte s.mem addr.toNat v }
  | .stub => s
  | .gap => s

/-! ## The register file (R14) -/

/-- An 8-bit register by its name. -/
def State.reg (s : State) : Reg8 → Byte
  | .b => s.b
  | .c => s.c
  | .d => s.d
  | .e => s.e
  | .h => s.h
  | .l => s.l
  | .a => s.a

/-- An 8-bit register set. -/
def State.setReg (s : State) (r : Reg8) (v : Byte) : State :=
  match r with
  | .b => { s with b := v }
  | .c => { s with c := v }
  | .d => { s with d := v }
  | .e => { s with e := v }
  | .h => { s with h := v }
  | .l => { s with l := v }
  | .a => { s with a := v }

/-- `BC` (R12). -/
def State.bc (s : State) : Word := wordOf s.b s.c

/-- `DE` (R12). -/
def State.de (s : State) : Word := wordOf s.d s.e

/-- `HL` (R12). -/
def State.hl (s : State) : Word := wordOf s.h s.l

/-- `BC <- w` (R12). -/
def State.setBc (s : State) (w : Word) : State := { s with b := hiByte w, c := loByte w }

/-- `DE <- w` (R12). -/
def State.setDe (s : State) (w : Word) : State := { s with d := hiByte w, e := loByte w }

/-- `HL <- w` (R12). -/
def State.setHl (s : State) (w : Word) : State := { s with h := hiByte w, l := loByte w }

/-- `sp <- w` (R13). -/
def State.setSp (s : State) (w : Word) : State := { s with sp := w }

/-- `pc <- w` (R9). -/
def State.setPc (s : State) (w : Word) : State := { s with pc := w }

/-- The four flags written. -/
def State.setFlags (s : State) (f : Flags) : State := { s with flags := f }

/-- `phase <- p` (R101, R102). -/
def State.setPhase (s : State) (p : Phase) : State := { s with phase := p }

/-- A handler's advance past `k` immediate bytes (R18, R79). -/
def State.skipImmediates (s : State) (k : Word) : State := s.setPc (s.pc + k)

/-- `a0`, the address of the opcode byte, while a handler runs: `pc -16 1` (R101). -/
def State.a0 (s : State) : Word := s.pc - 1#16

/-! ## Taking a fatal error -/

/-- `Fault(k, op)` (R206): the status records the kind and the opcode, the phase is AWAIT_FETCH, and everything else keeps
its value; nothing is saved and control goes nowhere. -/
def raiseFatal (k : FatalKind) (op : Byte) (s : State) : State :=
  { s with status := .faulted k op, phase := .awaitFetch }

end Sys2Proof.Machine
end

