-- ==== Sys2Proof/Machine/Flags.lean ====
section
/-! DEFINITION. The flag computation unit (R150 to R152), the flags of `ADD HL,r16` (R140), and the packed view of the
flags (R11). The sums are exact sums of naturals, so that a carry is a comparison. -/

namespace Sys2Proof.Machine

/-- A carry pair as the flag unit returns it. -/
structure Carries where
  half : Bool
  full : Bool
  deriving DecidableEq, Repr

/-- `b[3:0]` as a number. -/
def lowNibble (b : Byte) : Nat := (b.extractLsb' 0 4).toNat

/-- `addFlags(l, r)` (R150). -/
def addFlags (l r : Byte) : Carries where
  half := decide (0x10 ≤ lowNibble l + lowNibble r)
  full := decide (0x100 ≤ l.toNat + r.toNat)

/-- `subFlags(l, r)` (R151). -/
def subFlags (l r : Byte) : Carries where
  half := decide (lowNibble l < lowNibble r)
  full := decide (l.toNat < r.toNat)

/-- The Zero rule (R152): from the result, never from an operand. -/
def zeroFlag (result : Byte) : Bool := result == 0x00#8

/-- The carries of `ADD HL,r16` (R140): out of bit 11 and out of bit 15. -/
def addWordFlags (x y : Word) : Carries where
  half := decide (0x0FFF < (x.extractLsb' 0 12).toNat + (y.extractLsb' 0 12).toNat)
  full := decide (0xFFFF < x.toNat + y.toNat)

/-- The operand ADC and SBC use (R157, R159): the carry folded in by an 8-bit wrapping addition. -/
def foldCarry (v : Byte) (carry : Bool) : Byte := v + (bif carry then 1#8 else 0#8)

/-- `F`, the packed view of the flags (R11): Z, N, H, C at bits 7 to 4 and zeros below. No instruction reads it; the bit
positions are PRESUMED, as the spec says (log entry 13). -/
def State.packedF (s : State) : Byte :=
  BitVec.ofBool s.flags.z ++ BitVec.ofBool s.flags.n ++ BitVec.ofBool s.flags.h ++ BitVec.ofBool s.flags.c ++ 0#4

end Sys2Proof.Machine
end

