-- ==== Sys2Proof/Machine/Operands.lean ====
section
/-! DEFINITION. The operand forms: the three resolver tables (R73, R74, R75), the condition table (R76, R182) and the
sign-extended offset (R78). The codes are bounded types, so the resolver has no failing case (R84, R203). -/

namespace Sys2Proof.Machine

/-- `r8[c]` read (R73): for (HL) the byte of memory at the value `HL` has now. -/
def State.readR8 (s : State) : R8 → Byte
  | .reg r => s.reg r
  | .atHl => s.memRead s.hl

/-- `r8[c] <- v` (R73). -/
def State.writeR8 (s : State) (o : R8) (v : Byte) : State :=
  match o with
  | .reg r => s.setReg r v
  | .atHl => s.memWrite s.hl v

/-- `r16[c]` read (R74). -/
def State.readR16 (s : State) : R16 → Word
  | .bc => s.bc
  | .de => s.de
  | .hl => s.hl
  | .sp => s.sp

/-- `r16[c] <- w` (R74). -/
def State.writeR16 (s : State) (p : R16) (w : Word) : State :=
  match p with
  | .bc => s.setBc w
  | .de => s.setDe w
  | .hl => s.setHl w
  | .sp => s.setSp w

/-- The address part of `r16mem(c)` (R75): for (HL+) and (HL-) the value `HL` has before its change. -/
def State.r16memAddress (s : State) : R16mem → Word
  | .atBc => s.bc
  | .atDe => s.de
  | .atHlInc => s.hl
  | .atHlDec => s.hl

/-- The side effect of `r16mem(c)` (R75): the change of `HL`, made once, by the resolver. -/
def State.r16memResolved (s : State) : R16mem → State
  | .atBc => s
  | .atDe => s
  | .atHlInc => s.setHl (s.hl + 1#16)
  | .atHlDec => s.setHl (s.hl - 1#16)

/-- `Cond(cc)` (R182). -/
def State.condHolds (s : State) : Cond → Bool
  | .nz => !s.flags.z
  | .z => s.flags.z
  | .nc => !s.flags.c
  | .c => s.flags.c

/-- `sext_16(b)` (R9, R78). -/
def sext16 (b : Byte) : Word := b.signExtend 16

/-- The address a taken JR adds its offset to (R180): the normative base `a0 +16 2`, or `a0 +16 JR_BASE` (R4; log entry 9). -/
def State.jumpBase (s : State) : Word := s.a0 + s.config.jrBase.value

end Sys2Proof.Machine
end

