-- ==== Sys2Proof/Machine/Alu8.lean ====
section
/-! DEFINITION. The 8-bit arithmetic and logic (spec/43_alu8.md): first the operation of each family, then the meaning of
each instruction. Operands are read before the destination is written (R155, R164). -/

namespace Sys2Proof.Machine

/-- `INC r8` (R153): `F.C` keeps its value. -/
def inc8 (o : R8) (s : State) : Result :=
  let v := s.readR8 o
  let res := v + 1#8
  .next ((s.writeR8 o res).setFlags { s.flags with z := zeroFlag res, n := false, h := (addFlags v 1#8).half })

/-- `DEC r8` (R154): `F.C` keeps its value. -/
def dec8 (o : R8) (s : State) : Result :=
  let v := s.readR8 o
  let res := v - 1#8
  .next ((s.writeR8 o res).setFlags { s.flags with z := zeroFlag res, n := true, h := (subFlags v 1#8).half })

/-- `A +8 rhs` into `A` with the flags of the addition (R156, R157). -/
def addToA (rhs : Byte) (s : State) : State :=
  let k := addFlags s.a rhs
  let res := s.a + rhs
  (s.setReg .a res).setFlags { z := zeroFlag res, n := false, h := k.half, c := k.full }

/-- The flags of `A -8 rhs` (R158, R159, R163). -/
def subtractFlags (rhs : Byte) (s : State) : State :=
  let k := subFlags s.a rhs
  s.setFlags { z := zeroFlag (s.a - rhs), n := true, h := k.half, c := k.full }

/-- `A -8 rhs` into `A` with the flags of the subtraction (R158, R159). -/
def subtractFromA (rhs : Byte) (s : State) : State := (subtractFlags rhs s).setReg .a (s.a - rhs)

/-- The result of a logic operation into `A` (R160, R161, R162): HalfCarry is given, Subtract and Carry are reset. -/
def logicToA (res : Byte) (half : Bool) (s : State) : State :=
  (s.setReg .a res).setFlags { z := zeroFlag res, n := false, h := half, c := false }

/-- `ADD A,r8` (R156). -/
def addA (o : R8) (s : State) : Result := .next (addToA (s.readR8 o) s)

/-- `ADC A,r8` (R157). -/
def adcA (o : R8) (s : State) : Result := .next (addToA (foldCarry (s.readR8 o) s.flags.c) s)

/-- `SUB A,r8` (R158). -/
def subA (o : R8) (s : State) : Result := .next (subtractFromA (s.readR8 o) s)

/-- `SBC A,r8` (R159). -/
def sbcA (o : R8) (s : State) : Result := .next (subtractFromA (foldCarry (s.readR8 o) s.flags.c) s)

/-- `AND A,r8` (R160). -/
def andA (o : R8) (s : State) : Result := .next (logicToA (s.a &&& s.readR8 o) true s)

/-- `XOR A,r8` (R161). -/
def xorA (o : R8) (s : State) : Result := .next (logicToA (s.a ^^^ s.readR8 o) false s)

/-- `OR A,r8` (R162). -/
def orA (o : R8) (s : State) : Result := .next (logicToA (s.a ||| s.readR8 o) false s)

/-- `CP A,r8` (R163): SUB's flags, `A` unchanged. -/
def cpA (o : R8) (s : State) : Result := .next (subtractFlags (s.readR8 o) s)

/-- INC B, opcode 0x04 (R153). -/
def execIncB (s : State) : Result := inc8 (.reg .b) s

/-- INC C, opcode 0x0C (R153). -/
def execIncC (s : State) : Result := inc8 (.reg .c) s

/-- INC D, opcode 0x14 (R153). -/
def execIncD (s : State) : Result := inc8 (.reg .d) s

/-- INC E, opcode 0x1C (R153). -/
def execIncE (s : State) : Result := inc8 (.reg .e) s

/-- INC H, opcode 0x24 (R153). -/
def execIncH (s : State) : Result := inc8 (.reg .h) s

/-- INC L, opcode 0x2C (R153). -/
def execIncL (s : State) : Result := inc8 (.reg .l) s

/-- INC (HL), opcode 0x34 (R153). -/
def execIncAtHl (s : State) : Result := inc8 (.atHl) s

/-- INC A, opcode 0x3C (R153). -/
def execIncA (s : State) : Result := inc8 (.reg .a) s

/-- DEC B, opcode 0x05 (R154). -/
def execDecB (s : State) : Result := dec8 (.reg .b) s

/-- DEC C, opcode 0x0D (R154). -/
def execDecC (s : State) : Result := dec8 (.reg .c) s

/-- DEC D, opcode 0x15 (R154). -/
def execDecD (s : State) : Result := dec8 (.reg .d) s

/-- DEC E, opcode 0x1D (R154). -/
def execDecE (s : State) : Result := dec8 (.reg .e) s

/-- DEC H, opcode 0x25 (R154). -/
def execDecH (s : State) : Result := dec8 (.reg .h) s

/-- DEC L, opcode 0x2D (R154). -/
def execDecL (s : State) : Result := dec8 (.reg .l) s

/-- DEC (HL), opcode 0x35 (R154). -/
def execDecAtHl (s : State) : Result := dec8 (.atHl) s

/-- DEC A, opcode 0x3D (R154). -/
def execDecA (s : State) : Result := dec8 (.reg .a) s

/-- ADD A,B, opcode 0x80 (R156). -/
def execAddAB (s : State) : Result := addA (.reg .b) s

/-- ADD A,C, opcode 0x81 (R156). -/
def execAddAC (s : State) : Result := addA (.reg .c) s

/-- ADD A,D, opcode 0x82 (R156). -/
def execAddAD (s : State) : Result := addA (.reg .d) s

/-- ADD A,E, opcode 0x83 (R156). -/
def execAddAE (s : State) : Result := addA (.reg .e) s

/-- ADD A,H, opcode 0x84 (R156). -/
def execAddAH (s : State) : Result := addA (.reg .h) s

/-- ADD A,L, opcode 0x85 (R156). -/
def execAddAL (s : State) : Result := addA (.reg .l) s

/-- ADD A,(HL), opcode 0x86 (R156). -/
def execAddAAtHl (s : State) : Result := addA (.atHl) s

/-- ADD A,A, opcode 0x87 (R156). -/
def execAddAA (s : State) : Result := addA (.reg .a) s

/-- ADC A,B, opcode 0x88 (R157). -/
def execAdcAB (s : State) : Result := adcA (.reg .b) s

/-- ADC A,C, opcode 0x89 (R157). -/
def execAdcAC (s : State) : Result := adcA (.reg .c) s

/-- ADC A,D, opcode 0x8A (R157). -/
def execAdcAD (s : State) : Result := adcA (.reg .d) s

/-- ADC A,E, opcode 0x8B (R157). -/
def execAdcAE (s : State) : Result := adcA (.reg .e) s

/-- ADC A,H, opcode 0x8C (R157). -/
def execAdcAH (s : State) : Result := adcA (.reg .h) s

/-- ADC A,L, opcode 0x8D (R157). -/
def execAdcAL (s : State) : Result := adcA (.reg .l) s

/-- ADC A,(HL), opcode 0x8E (R157). -/
def execAdcAAtHl (s : State) : Result := adcA (.atHl) s

/-- ADC A,A, opcode 0x8F (R157). -/
def execAdcAA (s : State) : Result := adcA (.reg .a) s

/-- SUB A,B, opcode 0x90 (R158). -/
def execSubAB (s : State) : Result := subA (.reg .b) s

/-- SUB A,C, opcode 0x91 (R158). -/
def execSubAC (s : State) : Result := subA (.reg .c) s

/-- SUB A,D, opcode 0x92 (R158). -/
def execSubAD (s : State) : Result := subA (.reg .d) s

/-- SUB A,E, opcode 0x93 (R158). -/
def execSubAE (s : State) : Result := subA (.reg .e) s

/-- SUB A,H, opcode 0x94 (R158). -/
def execSubAH (s : State) : Result := subA (.reg .h) s

/-- SUB A,L, opcode 0x95 (R158). -/
def execSubAL (s : State) : Result := subA (.reg .l) s

/-- SUB A,(HL), opcode 0x96 (R158). -/
def execSubAAtHl (s : State) : Result := subA (.atHl) s

/-- SUB A,A, opcode 0x97 (R158). -/
def execSubAA (s : State) : Result := subA (.reg .a) s

/-- SBC A,B, opcode 0x98 (R159). -/
def execSbcAB (s : State) : Result := sbcA (.reg .b) s

/-- SBC A,C, opcode 0x99 (R159). -/
def execSbcAC (s : State) : Result := sbcA (.reg .c) s

/-- SBC A,D, opcode 0x9A (R159). -/
def execSbcAD (s : State) : Result := sbcA (.reg .d) s

/-- SBC A,E, opcode 0x9B (R159). -/
def execSbcAE (s : State) : Result := sbcA (.reg .e) s

/-- SBC A,H, opcode 0x9C (R159). -/
def execSbcAH (s : State) : Result := sbcA (.reg .h) s

/-- SBC A,L, opcode 0x9D (R159). -/
def execSbcAL (s : State) : Result := sbcA (.reg .l) s

/-- SBC A,(HL), opcode 0x9E (R159). -/
def execSbcAAtHl (s : State) : Result := sbcA (.atHl) s

/-- SBC A,A, opcode 0x9F (R159). -/
def execSbcAA (s : State) : Result := sbcA (.reg .a) s

/-- AND A,B, opcode 0xA0 (R160). -/
def execAndAB (s : State) : Result := andA (.reg .b) s

/-- AND A,C, opcode 0xA1 (R160). -/
def execAndAC (s : State) : Result := andA (.reg .c) s

/-- AND A,D, opcode 0xA2 (R160). -/
def execAndAD (s : State) : Result := andA (.reg .d) s

/-- AND A,E, opcode 0xA3 (R160). -/
def execAndAE (s : State) : Result := andA (.reg .e) s

/-- AND A,H, opcode 0xA4 (R160). -/
def execAndAH (s : State) : Result := andA (.reg .h) s

/-- AND A,L, opcode 0xA5 (R160). -/
def execAndAL (s : State) : Result := andA (.reg .l) s

/-- AND A,(HL), opcode 0xA6 (R160). -/
def execAndAAtHl (s : State) : Result := andA (.atHl) s

/-- AND A,A, opcode 0xA7 (R160). -/
def execAndAA (s : State) : Result := andA (.reg .a) s

/-- XOR A,B, opcode 0xA8 (R161). -/
def execXorAB (s : State) : Result := xorA (.reg .b) s

/-- XOR A,C, opcode 0xA9 (R161). -/
def execXorAC (s : State) : Result := xorA (.reg .c) s

/-- XOR A,D, opcode 0xAA (R161). -/
def execXorAD (s : State) : Result := xorA (.reg .d) s

/-- XOR A,E, opcode 0xAB (R161). -/
def execXorAE (s : State) : Result := xorA (.reg .e) s

/-- XOR A,H, opcode 0xAC (R161). -/
def execXorAH (s : State) : Result := xorA (.reg .h) s

/-- XOR A,L, opcode 0xAD (R161). -/
def execXorAL (s : State) : Result := xorA (.reg .l) s

/-- XOR A,(HL), opcode 0xAE (R161). -/
def execXorAAtHl (s : State) : Result := xorA (.atHl) s

/-- XOR A,A, opcode 0xAF (R161). -/
def execXorAA (s : State) : Result := xorA (.reg .a) s

/-- OR A,B, opcode 0xB0 (R162). -/
def execOrAB (s : State) : Result := orA (.reg .b) s

/-- OR A,C, opcode 0xB1 (R162). -/
def execOrAC (s : State) : Result := orA (.reg .c) s

/-- OR A,D, opcode 0xB2 (R162). -/
def execOrAD (s : State) : Result := orA (.reg .d) s

/-- OR A,E, opcode 0xB3 (R162). -/
def execOrAE (s : State) : Result := orA (.reg .e) s

/-- OR A,H, opcode 0xB4 (R162). -/
def execOrAH (s : State) : Result := orA (.reg .h) s

/-- OR A,L, opcode 0xB5 (R162). -/
def execOrAL (s : State) : Result := orA (.reg .l) s

/-- OR A,(HL), opcode 0xB6 (R162). -/
def execOrAAtHl (s : State) : Result := orA (.atHl) s

/-- OR A,A, opcode 0xB7 (R162). -/
def execOrAA (s : State) : Result := orA (.reg .a) s

/-- CP A,B, opcode 0xB8 (R163). -/
def execCpAB (s : State) : Result := cpA (.reg .b) s

/-- CP A,C, opcode 0xB9 (R163). -/
def execCpAC (s : State) : Result := cpA (.reg .c) s

/-- CP A,D, opcode 0xBA (R163). -/
def execCpAD (s : State) : Result := cpA (.reg .d) s

/-- CP A,E, opcode 0xBB (R163). -/
def execCpAE (s : State) : Result := cpA (.reg .e) s

/-- CP A,H, opcode 0xBC (R163). -/
def execCpAH (s : State) : Result := cpA (.reg .h) s

/-- CP A,L, opcode 0xBD (R163). -/
def execCpAL (s : State) : Result := cpA (.reg .l) s

/-- CP A,(HL), opcode 0xBE (R163). -/
def execCpAAtHl (s : State) : Result := cpA (.atHl) s

/-- CP A,A, opcode 0xBF (R163). -/
def execCpAA (s : State) : Result := cpA (.reg .a) s

end Sys2Proof.Machine
end

