-- ==== Sys2Proof/Machine/Arith16.lean ====
section
/-! DEFINITION. The 16-bit arithmetic (spec/42_arith16.md): first the operation of each of the three families, then the
meaning of each instruction. -/

namespace Sys2Proof.Machine

/-- `ADD HL,r16` (R140): both operands are read before `HL` is written; `F.Z` keeps its value. -/
def addHl (p : R16) (s : State) : Result :=
  let k := addWordFlags s.hl (s.readR16 p)
  .next ((s.setHl (s.hl + s.readR16 p)).setFlags { s.flags with n := false, h := k.half, c := k.full })

/-- `INC r16` (R141). -/
def inc16 (p : R16) (s : State) : Result := .next (s.writeR16 p (s.readR16 p + 1#16))

/-- `DEC r16` (R142). -/
def dec16 (p : R16) (s : State) : Result := .next (s.writeR16 p (s.readR16 p - 1#16))

/-- ADD HL,BC, opcode 0x09 (R140). -/
def execAddHlBc (s : State) : Result := addHl .bc s

/-- ADD HL,DE, opcode 0x19 (R140). -/
def execAddHlDe (s : State) : Result := addHl .de s

/-- ADD HL,HL, opcode 0x29 (R140). -/
def execAddHlHl (s : State) : Result := addHl .hl s

/-- ADD HL,SP, opcode 0x39 (R140). -/
def execAddHlSp (s : State) : Result := addHl .sp s

/-- INC BC, opcode 0x03 (R141). -/
def execIncBc (s : State) : Result := inc16 .bc s

/-- INC DE, opcode 0x13 (R141). -/
def execIncDe (s : State) : Result := inc16 .de s

/-- INC HL, opcode 0x23 (R141). -/
def execIncHl (s : State) : Result := inc16 .hl s

/-- INC SP, opcode 0x33 (R141). -/
def execIncSp (s : State) : Result := inc16 .sp s

/-- DEC BC, opcode 0x0B (R142). -/
def execDecBc (s : State) : Result := dec16 .bc s

/-- DEC DE, opcode 0x1B (R142). -/
def execDecDe (s : State) : Result := dec16 .de s

/-- DEC HL, opcode 0x2B (R142). -/
def execDecHl (s : State) : Result := dec16 .hl s

/-- DEC SP, opcode 0x3B (R142). -/
def execDecSp (s : State) : Result := dec16 .sp s

end Sys2Proof.Machine
end

