-- ==== Sys2Proof/Machine/Fatal.lean ====
section
/-! DEFINITION. The fatal opcodes (spec/45_unmatched_and_stack.md): each takes its fatal error (R206), which is a next state
whose status is FAULTED (log entry 6). No immediate is consumed; `pc` stays one past the opcode byte. -/

namespace Sys2Proof.Machine

/-- opcode 0x10 (R190). -/
def execUnmatchedOp10 (s : State) : Result := .next (raiseFatal .unmatched 0x10#8 s)

/-- opcode (00,f2,111) (R191). -/
def execUnmatchedColumn7 (f2 : BitVec 3) (s : State) : Result := .next (raiseFatal .unmatched (opcodeOf 0#2 f2 7#3) s)

/-- opcode (11,f2,f3) but 0xCB (R192). -/
def execUnimplementedGroup (f2 f3 : BitVec 3) (s : State) : Result := .next (raiseFatal .unimplemented (opcodeOf 3#2 f2 f3) s)

/-- opcode 0xCB (R193). -/
def execUnimplementedCb (s : State) : Result := .next (raiseFatal .unimplemented 0xCB#8 s)

end Sys2Proof.Machine
end

