-- ==== Sys2Proof/Machine/Jumps.lean ====
section
/-! DEFINITION. The relative jumps (spec/44_jumps.md): first the two operations, then the meaning of each instruction. -/

namespace Sys2Proof.Machine

/-- `JR e8` (R180): past the offset byte, then the offset; the base is `JR_BASE` bytes after the opcode byte. -/
def jumpRelative (e : Byte) (s : State) : Result := .next (s.setPc (s.jumpBase + sext16 e))

/-- `JR cc,e8` (R181): the pc passes the offset byte; the offset is added only when the condition holds. -/
def jumpRelativeIf (cc : Cond) (e : Byte) (s : State) : Result :=
  bif s.condHolds cc then .next (s.setPc (s.jumpBase + sext16 e)) else .next (s.skipImmediates 1#16)

/-- JR e8, opcode 0x18 (R180). -/
def execJrE8 (e : Byte) (s : State) : Result := jumpRelative e s

/-- JR NZ,e8, opcode 0x20 (R181). -/
def execJrNzE8 (e : Byte) (s : State) : Result := jumpRelativeIf .nz e s

/-- JR Z,e8, opcode 0x28 (R181). -/
def execJrZE8 (e : Byte) (s : State) : Result := jumpRelativeIf .z e s

/-- JR NC,e8, opcode 0x30 (R181). -/
def execJrNcE8 (e : Byte) (s : State) : Result := jumpRelativeIf .nc e s

/-- JR C,e8, opcode 0x38 (R181). -/
def execJrCE8 (e : Byte) (s : State) : Result := jumpRelativeIf .c e s

end Sys2Proof.Machine
end

