-- ==== Sys2Proof/Machine/Loads.lean ====
section
/-! DEFINITION. The load and store instructions (spec/41_loads.md): first the operation of each of the six families, then
the meaning of each instruction. No load or store changes a flag (R120). -/

namespace Sys2Proof.Machine

/-- `LD (u16),SP` (R121): the low byte at `nn`, the high byte at `nn +16 1`. -/
def storeSp (nn : Word) (s : State) : Result :=
  .next (((s.memWrite nn (loByte s.sp)).memWrite (nn + 1#16) (hiByte s.sp)).skipImmediates 2#16)

/-- `LD r16,u16` (R122). -/
def loadPair (p : R16) (nn : Word) (s : State) : Result := .next ((s.writeR16 p nn).skipImmediates 2#16)

/-- `LD (r16mem),A` (R123): the address is resolved, `HL` changed, then `A` stored at the resolved address. -/
def storeA (m : R16mem) (s : State) : Result :=
  .next ((s.r16memResolved m).memWrite (s.r16memAddress m) s.a)

/-- `LD A,(r16mem)` (R124): the address is resolved, `HL` changed, then `A` loaded from the resolved address. -/
def loadA (m : R16mem) (s : State) : Result :=
  .next ((s.r16memResolved m).setReg .a ((s.r16memResolved m).memRead (s.r16memAddress m)))

/-- `LD r8,u8` (R125). -/
def loadImm8 (d : R8) (n : Byte) (s : State) : Result := .next ((s.writeR8 d n).skipImmediates 1#16)

/-- `LD r8,r8` (R126): the source is read before the destination is written. -/
def move8 (d r : R8) (s : State) : Result := .next (s.writeR8 d (s.readR8 r))

/-- LD (u16),SP, opcode 0x08 (R121). -/
def execLdAtU16Sp (nn : Word) (s : State) : Result := storeSp nn s

/-- LD BC,u16, opcode 0x01 (R122). -/
def execLdBcU16 (nn : Word) (s : State) : Result := loadPair .bc nn s

/-- LD DE,u16, opcode 0x11 (R122). -/
def execLdDeU16 (nn : Word) (s : State) : Result := loadPair .de nn s

/-- LD HL,u16, opcode 0x21 (R122). -/
def execLdHlU16 (nn : Word) (s : State) : Result := loadPair .hl nn s

/-- LD SP,u16, opcode 0x31 (R122). -/
def execLdSpU16 (nn : Word) (s : State) : Result := loadPair .sp nn s

/-- LD (BC),A, opcode 0x02 (R123). -/
def execLdAtBcA (s : State) : Result := storeA .atBc s

/-- LD (DE),A, opcode 0x12 (R123). -/
def execLdAtDeA (s : State) : Result := storeA .atDe s

/-- LD (HL+),A, opcode 0x22 (R123). -/
def execLdAtHlIncA (s : State) : Result := storeA .atHlInc s

/-- LD (HL-),A, opcode 0x32 (R123). -/
def execLdAtHlDecA (s : State) : Result := storeA .atHlDec s

/-- LD A,(BC), opcode 0x0A (R124). -/
def execLdAAtBc (s : State) : Result := loadA .atBc s

/-- LD A,(DE), opcode 0x1A (R124). -/
def execLdAAtDe (s : State) : Result := loadA .atDe s

/-- LD A,(HL+), opcode 0x2A (R124). -/
def execLdAAtHlInc (s : State) : Result := loadA .atHlInc s

/-- LD A,(HL-), opcode 0x3A (R124). -/
def execLdAAtHlDec (s : State) : Result := loadA .atHlDec s

/-- LD B,u8, opcode 0x06 (R125). -/
def execLdBU8 (n : Byte) (s : State) : Result := loadImm8 (.reg .b) n s

/-- LD C,u8, opcode 0x0E (R125). -/
def execLdCU8 (n : Byte) (s : State) : Result := loadImm8 (.reg .c) n s

/-- LD D,u8, opcode 0x16 (R125). -/
def execLdDU8 (n : Byte) (s : State) : Result := loadImm8 (.reg .d) n s

/-- LD E,u8, opcode 0x1E (R125). -/
def execLdEU8 (n : Byte) (s : State) : Result := loadImm8 (.reg .e) n s

/-- LD H,u8, opcode 0x26 (R125). -/
def execLdHU8 (n : Byte) (s : State) : Result := loadImm8 (.reg .h) n s

/-- LD L,u8, opcode 0x2E (R125). -/
def execLdLU8 (n : Byte) (s : State) : Result := loadImm8 (.reg .l) n s

/-- LD (HL),u8, opcode 0x36 (R125). -/
def execLdAtHlU8 (n : Byte) (s : State) : Result := loadImm8 (.atHl) n s

/-- LD A,u8, opcode 0x3E (R125). -/
def execLdAU8 (n : Byte) (s : State) : Result := loadImm8 (.reg .a) n s

/-- LD B,B, opcode 0x40 (R126). -/
def execLdBB (s : State) : Result := move8 (.reg .b) (.reg .b) s

/-- LD B,C, opcode 0x41 (R126). -/
def execLdBC (s : State) : Result := move8 (.reg .b) (.reg .c) s

/-- LD B,D, opcode 0x42 (R126). -/
def execLdBD (s : State) : Result := move8 (.reg .b) (.reg .d) s

/-- LD B,E, opcode 0x43 (R126). -/
def execLdBE (s : State) : Result := move8 (.reg .b) (.reg .e) s

/-- LD B,H, opcode 0x44 (R126). -/
def execLdBH (s : State) : Result := move8 (.reg .b) (.reg .h) s

/-- LD B,L, opcode 0x45 (R126). -/
def execLdBL (s : State) : Result := move8 (.reg .b) (.reg .l) s

/-- LD B,(HL), opcode 0x46 (R126). -/
def execLdBAtHl (s : State) : Result := move8 (.reg .b) (.atHl) s

/-- LD B,A, opcode 0x47 (R126). -/
def execLdBA (s : State) : Result := move8 (.reg .b) (.reg .a) s

/-- LD C,B, opcode 0x48 (R126). -/
def execLdCB (s : State) : Result := move8 (.reg .c) (.reg .b) s

/-- LD C,C, opcode 0x49 (R126). -/
def execLdCC (s : State) : Result := move8 (.reg .c) (.reg .c) s

/-- LD C,D, opcode 0x4A (R126). -/
def execLdCD (s : State) : Result := move8 (.reg .c) (.reg .d) s

/-- LD C,E, opcode 0x4B (R126). -/
def execLdCE (s : State) : Result := move8 (.reg .c) (.reg .e) s

/-- LD C,H, opcode 0x4C (R126). -/
def execLdCH (s : State) : Result := move8 (.reg .c) (.reg .h) s

/-- LD C,L, opcode 0x4D (R126). -/
def execLdCL (s : State) : Result := move8 (.reg .c) (.reg .l) s

/-- LD C,(HL), opcode 0x4E (R126). -/
def execLdCAtHl (s : State) : Result := move8 (.reg .c) (.atHl) s

/-- LD C,A, opcode 0x4F (R126). -/
def execLdCA (s : State) : Result := move8 (.reg .c) (.reg .a) s

/-- LD D,B, opcode 0x50 (R126). -/
def execLdDB (s : State) : Result := move8 (.reg .d) (.reg .b) s

/-- LD D,C, opcode 0x51 (R126). -/
def execLdDC (s : State) : Result := move8 (.reg .d) (.reg .c) s

/-- LD D,D, opcode 0x52 (R126). -/
def execLdDD (s : State) : Result := move8 (.reg .d) (.reg .d) s

/-- LD D,E, opcode 0x53 (R126). -/
def execLdDE (s : State) : Result := move8 (.reg .d) (.reg .e) s

/-- LD D,H, opcode 0x54 (R126). -/
def execLdDH (s : State) : Result := move8 (.reg .d) (.reg .h) s

/-- LD D,L, opcode 0x55 (R126). -/
def execLdDL (s : State) : Result := move8 (.reg .d) (.reg .l) s

/-- LD D,(HL), opcode 0x56 (R126). -/
def execLdDAtHl (s : State) : Result := move8 (.reg .d) (.atHl) s

/-- LD D,A, opcode 0x57 (R126). -/
def execLdDA (s : State) : Result := move8 (.reg .d) (.reg .a) s

/-- LD E,B, opcode 0x58 (R126). -/
def execLdEB (s : State) : Result := move8 (.reg .e) (.reg .b) s

/-- LD E,C, opcode 0x59 (R126). -/
def execLdEC (s : State) : Result := move8 (.reg .e) (.reg .c) s

/-- LD E,D, opcode 0x5A (R126). -/
def execLdED (s : State) : Result := move8 (.reg .e) (.reg .d) s

/-- LD E,E, opcode 0x5B (R126). -/
def execLdEE (s : State) : Result := move8 (.reg .e) (.reg .e) s

/-- LD E,H, opcode 0x5C (R126). -/
def execLdEH (s : State) : Result := move8 (.reg .e) (.reg .h) s

/-- LD E,L, opcode 0x5D (R126). -/
def execLdEL (s : State) : Result := move8 (.reg .e) (.reg .l) s

/-- LD E,(HL), opcode 0x5E (R126). -/
def execLdEAtHl (s : State) : Result := move8 (.reg .e) (.atHl) s

/-- LD E,A, opcode 0x5F (R126). -/
def execLdEA (s : State) : Result := move8 (.reg .e) (.reg .a) s

/-- LD H,B, opcode 0x60 (R126). -/
def execLdHB (s : State) : Result := move8 (.reg .h) (.reg .b) s

/-- LD H,C, opcode 0x61 (R126). -/
def execLdHC (s : State) : Result := move8 (.reg .h) (.reg .c) s

/-- LD H,D, opcode 0x62 (R126). -/
def execLdHD (s : State) : Result := move8 (.reg .h) (.reg .d) s

/-- LD H,E, opcode 0x63 (R126). -/
def execLdHE (s : State) : Result := move8 (.reg .h) (.reg .e) s

/-- LD H,H, opcode 0x64 (R126). -/
def execLdHH (s : State) : Result := move8 (.reg .h) (.reg .h) s

/-- LD H,L, opcode 0x65 (R126). -/
def execLdHL (s : State) : Result := move8 (.reg .h) (.reg .l) s

/-- LD H,(HL), opcode 0x66 (R126). -/
def execLdHAtHl (s : State) : Result := move8 (.reg .h) (.atHl) s

/-- LD H,A, opcode 0x67 (R126). -/
def execLdHA (s : State) : Result := move8 (.reg .h) (.reg .a) s

/-- LD L,B, opcode 0x68 (R126). -/
def execLdLB (s : State) : Result := move8 (.reg .l) (.reg .b) s

/-- LD L,C, opcode 0x69 (R126). -/
def execLdLC (s : State) : Result := move8 (.reg .l) (.reg .c) s

/-- LD L,D, opcode 0x6A (R126). -/
def execLdLD (s : State) : Result := move8 (.reg .l) (.reg .d) s

/-- LD L,E, opcode 0x6B (R126). -/
def execLdLE (s : State) : Result := move8 (.reg .l) (.reg .e) s

/-- LD L,H, opcode 0x6C (R126). -/
def execLdLH (s : State) : Result := move8 (.reg .l) (.reg .h) s

/-- LD L,L, opcode 0x6D (R126). -/
def execLdLL (s : State) : Result := move8 (.reg .l) (.reg .l) s

/-- LD L,(HL), opcode 0x6E (R126). -/
def execLdLAtHl (s : State) : Result := move8 (.reg .l) (.atHl) s

/-- LD L,A, opcode 0x6F (R126). -/
def execLdLA (s : State) : Result := move8 (.reg .l) (.reg .a) s

/-- LD (HL),B, opcode 0x70 (R126). -/
def execLdAtHlB (s : State) : Result := move8 (.atHl) (.reg .b) s

/-- LD (HL),C, opcode 0x71 (R126). -/
def execLdAtHlC (s : State) : Result := move8 (.atHl) (.reg .c) s

/-- LD (HL),D, opcode 0x72 (R126). -/
def execLdAtHlD (s : State) : Result := move8 (.atHl) (.reg .d) s

/-- LD (HL),E, opcode 0x73 (R126). -/
def execLdAtHlE (s : State) : Result := move8 (.atHl) (.reg .e) s

/-- LD (HL),H, opcode 0x74 (R126). -/
def execLdAtHlH (s : State) : Result := move8 (.atHl) (.reg .h) s

/-- LD (HL),L, opcode 0x75 (R126). -/
def execLdAtHlL (s : State) : Result := move8 (.atHl) (.reg .l) s

/-- LD (HL),A, opcode 0x77 (R126). -/
def execLdAtHlA (s : State) : Result := move8 (.atHl) (.reg .a) s

/-- LD A,B, opcode 0x78 (R126). -/
def execLdAB (s : State) : Result := move8 (.reg .a) (.reg .b) s

/-- LD A,C, opcode 0x79 (R126). -/
def execLdAC (s : State) : Result := move8 (.reg .a) (.reg .c) s

/-- LD A,D, opcode 0x7A (R126). -/
def execLdAD (s : State) : Result := move8 (.reg .a) (.reg .d) s

/-- LD A,E, opcode 0x7B (R126). -/
def execLdAE (s : State) : Result := move8 (.reg .a) (.reg .e) s

/-- LD A,H, opcode 0x7C (R126). -/
def execLdAH (s : State) : Result := move8 (.reg .a) (.reg .h) s

/-- LD A,L, opcode 0x7D (R126). -/
def execLdAL (s : State) : Result := move8 (.reg .a) (.reg .l) s

/-- LD A,(HL), opcode 0x7E (R126). -/
def execLdAAtHl (s : State) : Result := move8 (.reg .a) (.atHl) s

/-- LD A,A, opcode 0x7F (R126). -/
def execLdAA (s : State) : Result := move8 (.reg .a) (.reg .a) s

end Sys2Proof.Machine
end

