-- ==== Sys2Proof/Machine/System.lean ====
section
/-! DEFINITION. NOP and HALT (R104, R105): the handler does nothing; HALT keeps no halted state (R212). -/

namespace Sys2Proof.Machine

/-- NOP, opcode 0x00 (R104). -/
def execNop (s : State) : Result := .next s

/-- HALT, opcode 0x76 (R105). -/
def execHalt (s : State) : Result := .next s

end Sys2Proof.Machine
end

