-- ==== Sys2Proof/Machine/Dispatch.lean ====
section
/-! DEFINITION. The dispatch (R102): one arm per constructor of `Instr`, each a call of that instruction's own meaning.
`exec i s` is the handler part of Execute: `s` is the state the fetch left, so `s.pc` is one past the opcode byte (R101; log entry 12). -/

namespace Sys2Proof.Machine

def exec (i : Instr) (s : State) : Host.Outcome State Fault Refusal :=
  match i with
  -- NOP and HALT (R104, R105)
  | .nop => Sys2Proof.Machine.execNop s
  | .halt => Sys2Proof.Machine.execHalt s
  -- LD (u16),SP and LD r16,u16 (R121, R122)
  | .ldAtU16Sp nn => Sys2Proof.Machine.execLdAtU16Sp nn s
  | .ldBcU16 nn => Sys2Proof.Machine.execLdBcU16 nn s
  | .ldDeU16 nn => Sys2Proof.Machine.execLdDeU16 nn s
  | .ldHlU16 nn => Sys2Proof.Machine.execLdHlU16 nn s
  | .ldSpU16 nn => Sys2Proof.Machine.execLdSpU16 nn s
  -- LD (r16mem),A and LD A,(r16mem) (R123, R124)
  | .ldAtBcA => Sys2Proof.Machine.execLdAtBcA s
  | .ldAtDeA => Sys2Proof.Machine.execLdAtDeA s
  | .ldAtHlIncA => Sys2Proof.Machine.execLdAtHlIncA s
  | .ldAtHlDecA => Sys2Proof.Machine.execLdAtHlDecA s
  | .ldAAtBc => Sys2Proof.Machine.execLdAAtBc s
  | .ldAAtDe => Sys2Proof.Machine.execLdAAtDe s
  | .ldAAtHlInc => Sys2Proof.Machine.execLdAAtHlInc s
  | .ldAAtHlDec => Sys2Proof.Machine.execLdAAtHlDec s
  -- LD r8,u8 (R125)
  | .ldBU8 n => Sys2Proof.Machine.execLdBU8 n s
  | .ldCU8 n => Sys2Proof.Machine.execLdCU8 n s
  | .ldDU8 n => Sys2Proof.Machine.execLdDU8 n s
  | .ldEU8 n => Sys2Proof.Machine.execLdEU8 n s
  | .ldHU8 n => Sys2Proof.Machine.execLdHU8 n s
  | .ldLU8 n => Sys2Proof.Machine.execLdLU8 n s
  | .ldAtHlU8 n => Sys2Proof.Machine.execLdAtHlU8 n s
  | .ldAU8 n => Sys2Proof.Machine.execLdAU8 n s
  -- LD r8,r8 (R126)
  | .ldBB => Sys2Proof.Machine.execLdBB s
  | .ldBC => Sys2Proof.Machine.execLdBC s
  | .ldBD => Sys2Proof.Machine.execLdBD s
  | .ldBE => Sys2Proof.Machine.execLdBE s
  | .ldBH => Sys2Proof.Machine.execLdBH s
  | .ldBL => Sys2Proof.Machine.execLdBL s
  | .ldBAtHl => Sys2Proof.Machine.execLdBAtHl s
  | .ldBA => Sys2Proof.Machine.execLdBA s
  | .ldCB => Sys2Proof.Machine.execLdCB s
  | .ldCC => Sys2Proof.Machine.execLdCC s
  | .ldCD => Sys2Proof.Machine.execLdCD s
  | .ldCE => Sys2Proof.Machine.execLdCE s
  | .ldCH => Sys2Proof.Machine.execLdCH s
  | .ldCL => Sys2Proof.Machine.execLdCL s
  | .ldCAtHl => Sys2Proof.Machine.execLdCAtHl s
  | .ldCA => Sys2Proof.Machine.execLdCA s
  | .ldDB => Sys2Proof.Machine.execLdDB s
  | .ldDC => Sys2Proof.Machine.execLdDC s
  | .ldDD => Sys2Proof.Machine.execLdDD s
  | .ldDE => Sys2Proof.Machine.execLdDE s
  | .ldDH => Sys2Proof.Machine.execLdDH s
  | .ldDL => Sys2Proof.Machine.execLdDL s
  | .ldDAtHl => Sys2Proof.Machine.execLdDAtHl s
  | .ldDA => Sys2Proof.Machine.execLdDA s
  | .ldEB => Sys2Proof.Machine.execLdEB s
  | .ldEC => Sys2Proof.Machine.execLdEC s
  | .ldED => Sys2Proof.Machine.execLdED s
  | .ldEE => Sys2Proof.Machine.execLdEE s
  | .ldEH => Sys2Proof.Machine.execLdEH s
  | .ldEL => Sys2Proof.Machine.execLdEL s
  | .ldEAtHl => Sys2Proof.Machine.execLdEAtHl s
  | .ldEA => Sys2Proof.Machine.execLdEA s
  | .ldHB => Sys2Proof.Machine.execLdHB s
  | .ldHC => Sys2Proof.Machine.execLdHC s
  | .ldHD => Sys2Proof.Machine.execLdHD s
  | .ldHE => Sys2Proof.Machine.execLdHE s
  | .ldHH => Sys2Proof.Machine.execLdHH s
  | .ldHL => Sys2Proof.Machine.execLdHL s
  | .ldHAtHl => Sys2Proof.Machine.execLdHAtHl s
  | .ldHA => Sys2Proof.Machine.execLdHA s
  | .ldLB => Sys2Proof.Machine.execLdLB s
  | .ldLC => Sys2Proof.Machine.execLdLC s
  | .ldLD => Sys2Proof.Machine.execLdLD s
  | .ldLE => Sys2Proof.Machine.execLdLE s
  | .ldLH => Sys2Proof.Machine.execLdLH s
  | .ldLL => Sys2Proof.Machine.execLdLL s
  | .ldLAtHl => Sys2Proof.Machine.execLdLAtHl s
  | .ldLA => Sys2Proof.Machine.execLdLA s
  | .ldAtHlB => Sys2Proof.Machine.execLdAtHlB s
  | .ldAtHlC => Sys2Proof.Machine.execLdAtHlC s
  | .ldAtHlD => Sys2Proof.Machine.execLdAtHlD s
  | .ldAtHlE => Sys2Proof.Machine.execLdAtHlE s
  | .ldAtHlH => Sys2Proof.Machine.execLdAtHlH s
  | .ldAtHlL => Sys2Proof.Machine.execLdAtHlL s
  | .ldAtHlA => Sys2Proof.Machine.execLdAtHlA s
  | .ldAB => Sys2Proof.Machine.execLdAB s
  | .ldAC => Sys2Proof.Machine.execLdAC s
  | .ldAD => Sys2Proof.Machine.execLdAD s
  | .ldAE => Sys2Proof.Machine.execLdAE s
  | .ldAH => Sys2Proof.Machine.execLdAH s
  | .ldAL => Sys2Proof.Machine.execLdAL s
  | .ldAAtHl => Sys2Proof.Machine.execLdAAtHl s
  | .ldAA => Sys2Proof.Machine.execLdAA s
  -- 16-bit arithmetic (R140 to R142)
  | .addHlBc => Sys2Proof.Machine.execAddHlBc s
  | .addHlDe => Sys2Proof.Machine.execAddHlDe s
  | .addHlHl => Sys2Proof.Machine.execAddHlHl s
  | .addHlSp => Sys2Proof.Machine.execAddHlSp s
  | .incBc => Sys2Proof.Machine.execIncBc s
  | .incDe => Sys2Proof.Machine.execIncDe s
  | .incHl => Sys2Proof.Machine.execIncHl s
  | .incSp => Sys2Proof.Machine.execIncSp s
  | .decBc => Sys2Proof.Machine.execDecBc s
  | .decDe => Sys2Proof.Machine.execDecDe s
  | .decHl => Sys2Proof.Machine.execDecHl s
  | .decSp => Sys2Proof.Machine.execDecSp s
  -- INC r8, DEC r8 (R153, R154)
  | .incB => Sys2Proof.Machine.execIncB s
  | .incC => Sys2Proof.Machine.execIncC s
  | .incD => Sys2Proof.Machine.execIncD s
  | .incE => Sys2Proof.Machine.execIncE s
  | .incH => Sys2Proof.Machine.execIncH s
  | .incL => Sys2Proof.Machine.execIncL s
  | .incAtHl => Sys2Proof.Machine.execIncAtHl s
  | .incA => Sys2Proof.Machine.execIncA s
  | .decB => Sys2Proof.Machine.execDecB s
  | .decC => Sys2Proof.Machine.execDecC s
  | .decD => Sys2Proof.Machine.execDecD s
  | .decE => Sys2Proof.Machine.execDecE s
  | .decH => Sys2Proof.Machine.execDecH s
  | .decL => Sys2Proof.Machine.execDecL s
  | .decAtHl => Sys2Proof.Machine.execDecAtHl s
  | .decA => Sys2Proof.Machine.execDecA s
  -- The ALU group (R155 to R163)
  | .addAB => Sys2Proof.Machine.execAddAB s
  | .addAC => Sys2Proof.Machine.execAddAC s
  | .addAD => Sys2Proof.Machine.execAddAD s
  | .addAE => Sys2Proof.Machine.execAddAE s
  | .addAH => Sys2Proof.Machine.execAddAH s
  | .addAL => Sys2Proof.Machine.execAddAL s
  | .addAAtHl => Sys2Proof.Machine.execAddAAtHl s
  | .addAA => Sys2Proof.Machine.execAddAA s
  | .adcAB => Sys2Proof.Machine.execAdcAB s
  | .adcAC => Sys2Proof.Machine.execAdcAC s
  | .adcAD => Sys2Proof.Machine.execAdcAD s
  | .adcAE => Sys2Proof.Machine.execAdcAE s
  | .adcAH => Sys2Proof.Machine.execAdcAH s
  | .adcAL => Sys2Proof.Machine.execAdcAL s
  | .adcAAtHl => Sys2Proof.Machine.execAdcAAtHl s
  | .adcAA => Sys2Proof.Machine.execAdcAA s
  | .subAB => Sys2Proof.Machine.execSubAB s
  | .subAC => Sys2Proof.Machine.execSubAC s
  | .subAD => Sys2Proof.Machine.execSubAD s
  | .subAE => Sys2Proof.Machine.execSubAE s
  | .subAH => Sys2Proof.Machine.execSubAH s
  | .subAL => Sys2Proof.Machine.execSubAL s
  | .subAAtHl => Sys2Proof.Machine.execSubAAtHl s
  | .subAA => Sys2Proof.Machine.execSubAA s
  | .sbcAB => Sys2Proof.Machine.execSbcAB s
  | .sbcAC => Sys2Proof.Machine.execSbcAC s
  | .sbcAD => Sys2Proof.Machine.execSbcAD s
  | .sbcAE => Sys2Proof.Machine.execSbcAE s
  | .sbcAH => Sys2Proof.Machine.execSbcAH s
  | .sbcAL => Sys2Proof.Machine.execSbcAL s
  | .sbcAAtHl => Sys2Proof.Machine.execSbcAAtHl s
  | .sbcAA => Sys2Proof.Machine.execSbcAA s
  | .andAB => Sys2Proof.Machine.execAndAB s
  | .andAC => Sys2Proof.Machine.execAndAC s
  | .andAD => Sys2Proof.Machine.execAndAD s
  | .andAE => Sys2Proof.Machine.execAndAE s
  | .andAH => Sys2Proof.Machine.execAndAH s
  | .andAL => Sys2Proof.Machine.execAndAL s
  | .andAAtHl => Sys2Proof.Machine.execAndAAtHl s
  | .andAA => Sys2Proof.Machine.execAndAA s
  | .xorAB => Sys2Proof.Machine.execXorAB s
  | .xorAC => Sys2Proof.Machine.execXorAC s
  | .xorAD => Sys2Proof.Machine.execXorAD s
  | .xorAE => Sys2Proof.Machine.execXorAE s
  | .xorAH => Sys2Proof.Machine.execXorAH s
  | .xorAL => Sys2Proof.Machine.execXorAL s
  | .xorAAtHl => Sys2Proof.Machine.execXorAAtHl s
  | .xorAA => Sys2Proof.Machine.execXorAA s
  | .orAB => Sys2Proof.Machine.execOrAB s
  | .orAC => Sys2Proof.Machine.execOrAC s
  | .orAD => Sys2Proof.Machine.execOrAD s
  | .orAE => Sys2Proof.Machine.execOrAE s
  | .orAH => Sys2Proof.Machine.execOrAH s
  | .orAL => Sys2Proof.Machine.execOrAL s
  | .orAAtHl => Sys2Proof.Machine.execOrAAtHl s
  | .orAA => Sys2Proof.Machine.execOrAA s
  | .cpAB => Sys2Proof.Machine.execCpAB s
  | .cpAC => Sys2Proof.Machine.execCpAC s
  | .cpAD => Sys2Proof.Machine.execCpAD s
  | .cpAE => Sys2Proof.Machine.execCpAE s
  | .cpAH => Sys2Proof.Machine.execCpAH s
  | .cpAL => Sys2Proof.Machine.execCpAL s
  | .cpAAtHl => Sys2Proof.Machine.execCpAAtHl s
  | .cpAA => Sys2Proof.Machine.execCpAA s
  -- Relative jumps (R180, R181)
  | .jrE8 e => Sys2Proof.Machine.execJrE8 e s
  | .jrNzE8 e => Sys2Proof.Machine.execJrNzE8 e s
  | .jrZE8 e => Sys2Proof.Machine.execJrZE8 e s
  | .jrNcE8 e => Sys2Proof.Machine.execJrNcE8 e s
  | .jrCE8 e => Sys2Proof.Machine.execJrCE8 e s
  -- Fatal opcodes (R190 to R193)
  | .unmatchedOp10 => Sys2Proof.Machine.execUnmatchedOp10 s
  | .unmatchedColumn7 f2 => Sys2Proof.Machine.execUnmatchedColumn7 f2 s
  | .unimplementedGroup f2 f3 => Sys2Proof.Machine.execUnimplementedGroup f2 f3 s
  | .unimplementedCb => Sys2Proof.Machine.execUnimplementedCb s

end Sys2Proof.Machine
end

