-- ==== Sys2Proof/Machine/Fetch.lean ====
section
/-! DEFINITION. The fetch (R101), creation (R230), the ROM load (R231), and placing one instruction where the next fetch
reads. -/

namespace Sys2Proof.Machine

/-- `Fetch` (R101): the three latches from `pc`, `pc +16 1`, `pc +16 2`; then `pc` advances by 1. -/
def State.fetch (s : State) : State :=
  { s with
    ir := s.memRead s.pc
    b2 := s.memRead (s.pc + 1#16)
    b3 := s.memRead (s.pc + 2#16)
    pc := s.pc + 1#16
    phase := .awaitExecute }

/-- `CREATE(RAM_INIT)` (R230) with the parameters of R4: `State.reset` but for the parameters and the RAM contents. -/
def State.create (cfg : Config) (ram : RamInit) : State :=
  { State.reset with
    mem := Memory.putBytes (Memory.putBytes (Memory.putBytes [] Store.xram.base ram.xram.toList)
      Store.wram0.base ram.wram0.toList) Store.wram1.base ram.wram1.toList
    config := cfg }

/-- The entry point (R232). -/
def entryPoint : Word := 0x0100#16

/-- The number of image bytes that are loaded, and the least length of an image (R231). -/
def imageLength : Nat := 32768

/-- The effect of a successful `LOAD_ROM` (R33, R231): the first 32,768 bytes of the image fill `ROM0` and `ROM1`, which
are adjacent on the bus, and `pc` is the entry point. -/
def State.withImage (image : List Byte) (s : State) : State :=
  { s with
    mem := Memory.putBytes s.mem Store.rom0.base (image.take imageLength)
    pc := entryPoint
    romLoaded := true }

/-- The host command `LOAD_ROM(ROM_IMAGE)` (R231, R241): refused in FAULTED and after a successful load; `RomLoadError` for
an image shorter than 32,768 bytes (R204). -/
def State.loadRom (image : List Byte) (s : State) : Result :=
  match s.status with
  | .faulted _ _ => .refused .coreFaulted
  | .running =>
    match s.phase with
    | .awaitExecute => .refused .executeAwaited
    | .awaitFetch =>
      bif s.romLoaded then .refused .romAlreadyLoaded
      else if image.length < imageLength then .fault .romLoadError
      else .next (s.withImage image)

/-- The host command `FETCH` (R241). -/
def State.fetchCommand (s : State) : Result :=
  match s.status with
  | .faulted _ _ => .refused .coreFaulted
  | .running =>
    match s.phase with
    | .awaitExecute => .refused .executeAwaited
    | .awaitFetch => bif s.romLoaded then .next s.fetch else .refused .romNotLoaded

/-- Whether the three bytes a fetch at `pc` reads have a backing store. -/
def fetchesStored (pc : Word) : Bool := isStored pc && isStored (pc + 1#16) && isStored (pc + 2#16)

/-- The state made ready for a fetch of stored bytes (log entry 8): a state with no ROM loaded gets the effect of loading
one, so its `pc` is the entry point; a `pc` whose three bytes are not all stored becomes the entry point too. -/
def State.readyToFetch (s : State) : State :=
  { s with
    status := .running
    phase := .awaitFetch
    romLoaded := true
    pc := bif s.romLoaded && fetchesStored s.pc then s.pc else entryPoint }

/-- Bytes stored at consecutive addresses through the bus. -/
def State.memWrites (s : State) (addr : Word) : List Byte → State
  | [] => s
  | v :: vs => (s.memWrite addr v).memWrites (addr + 1#16) vs

end Sys2Proof.Machine
end

