-- ==== Sys2Proof/Machine/Driver.lean ====
section
/-! DEFINITION. The second half of a step: the host command EXECUTE (R102, R241). -/

namespace Sys2Proof.Machine

/-- The end of Execute (R102): the phase is AWAIT_FETCH again. -/
def finishExecute : Result → Result
  | .next t => .next (t.setPhase .awaitFetch)
  | .fault r => .fault r
  | .refused r => .refused r

/-- `Execute` (R102): the handler of the latched opcode with its latched immediates (log entry 11), then the phase. -/
def State.execute (s : State) : Result := finishExecute (exec (decodeLatches s.ir s.b2 s.b3) s)

/-- The host command `EXECUTE` (R241). -/
def State.executeCommand (s : State) : Result :=
  match s.status with
  | .faulted _ _ => .refused .coreFaulted
  | .running =>
    match s.phase with
    | .awaitFetch => .refused .fetchAwaited
    | .awaitExecute => s.execute

/-- One command after another: the second is given the state the first one leaves. -/
def andThen (first : Result) (second : State → Result) : Result :=
  match first with
  | .next t => second t
  | .fault r => .fault r
  | .refused r => .refused r

end Sys2Proof.Machine
end

