-- ==== Sys2Proof/Machine/Step.lean ====
section
/-! DEFINITION. One step of the core, FETCH then EXECUTE (R8, R100), and a state whose next step runs a given instruction. -/

namespace Sys2Proof.Machine

/-- One step (R8, R100): `fetch()` then `execute()`. It is refused where FETCH is refused (R241). -/
def step (s : State) : Host.Outcome State Fault Refusal := andThen s.fetchCommand State.executeCommand

/-- The state with an instruction where the next step fetches, numbered as spec/opcode_table.json numbers its rows. From
`State.reset` this stands for LOAD_ROM of an image that holds the instruction at the entry point (log entries 4 and 8). -/
def State.withFetchWord (s : State) (nbits w : Nat) : State :=
  s.readyToFetch.memWrites s.readyToFetch.pc (tableWordBytes nbits w)

end Sys2Proof.Machine
end

