-- ==== Sys2Proof/Safety.lean ====
section
/-! DEFINITION. The words the claims use: operand codes as numbers, what an instruction keeps, when a step may start, and the
invariant of the core. -/

namespace Sys2Proof

/-! ## The operand codes as numbers -/

/-- The code of an r8 operand (R73). -/
def R8.code : R8 → Nat
  | .reg .b => 0
  | .reg .c => 1
  | .reg .d => 2
  | .reg .e => 3
  | .reg .h => 4
  | .reg .l => 5
  | .atHl => 6
  | .reg .a => 7

/-- The code of an r16 operand (R74). -/
def R16.code : R16 → Nat
  | .bc => 0
  | .de => 1
  | .hl => 2
  | .sp => 3

/-- The code of an r16mem operand (R75). -/
def R16mem.code : R16mem → Nat
  | .atBc => 0
  | .atDe => 1
  | .atHlInc => 2
  | .atHlDec => 3

/-- The code of a condition (R76). -/
def Cond.code : Cond → Nat
  | .nz => 0
  | .z => 1
  | .nc => 2
  | .c => 3

namespace Machine

/-! ## What is kept -/

/-- The named registers outside a list are the same. -/
def KeepsRegsBut (rs : List Reg8) (s t : State) : Prop := ∀ r, r ∉ rs → t.reg r = s.reg r

/-- Everything that is no general register, flag, `sp`, `pc` or memory is the same: the latches (which handlers never
mutate, R27), the status, the phase, whether a ROM is loaded, and the parameters. -/
structure KeepsMachine (s t : State) : Prop where
  ir : t.ir = s.ir
  b2 : t.b2 = s.b2
  b3 : t.b3 = s.b3
  status : t.status = s.status
  phase : t.phase = s.phase
  romLoaded : t.romLoaded = s.romLoaded
  config : t.config = s.config

/-! ## When a step may start -/

/-- FETCH is legal, and so a step may start (R100, R241). -/
def State.ready (s : State) : Prop := s.status = .running ∧ s.phase = .awaitFetch ∧ s.romLoaded = true

/-! ## The invariant -/

/-- The nine opcodes no pattern matches (R201). -/
def isUnmatched (op : Byte) : Prop :=
  op ∈ [0x07#8, 0x0F#8, 0x10#8, 0x17#8, 0x1F#8, 0x27#8, 0x2F#8, 0x37#8, 0x3F#8]

/-- The 64 opcodes of the `(11,...)` group (R202). -/
def isUnimplemented (op : Byte) : Prop := 0xC0#8 ≤ op

/-- What a status may record: an unmatched opcode under its kind, an unimplemented one under its kind, never a resolver
error (R201, R202, R203). -/
def Status.sound : Status → Prop
  | .running => True
  | .faulted .unmatched op => isUnmatched op
  | .faulted .unimplemented op => isUnimplemented op
  | .faulted .resolverError _ => False

/-- The invariant of the core: memory is in canonical form, a recorded fault is one the spec names, its opcode is the
latched one (R28), and a faulted core is between steps (R206). -/
structure State.Inv (s : State) : Prop where
  memory : Memory.wf s.mem
  status : s.status.sound
  latched : ∀ k op, s.status = .faulted k op → s.ir = op ∧ s.phase = .awaitFetch

end Machine

end Sys2Proof
end

