-- ==== Sys2Proof/Certificates/Slice0/Obligations.lean ====
section
/-! DEFINITION. The statements about the model. `s` is a state; in a statement about `exec`, `s` is the state the fetch left,
so `s.a0` is the address of the opcode byte and `s.pc` is `s.a0 + 1` (R101); in a statement about `step`, `s` is the state
between steps. Each docstring names the rules of spec/ it formalises. -/

open Sys2Proof Sys2Proof.Machine

/-! ## Encoding -/

/-- The decoder reads back what the encoder writes, with every operand value, whatever bytes follow (R70, R72, R78, R81). -/
def Obligations.DecodeReadsBackEncode : Prop :=
  ∀ (i : Instr) (rest : List Byte), i.wellFormed = true → decode (i.encode ++ rest) = .ok (i, rest)

/-- Whatever the decoder reads is a well-formed instruction whose encoding is exactly the bytes read (R70, R80, R81). -/
def Obligations.EncodeReadsBackDecode : Prop :=
  ∀ (bytes : List Byte) (i : Instr) (rest : List Byte),
    decode bytes = .ok (i, rest) → i.wellFormed = true ∧ bytes = i.encode ++ rest

/-- Words written out from the opcode map (R81), one or more of each family. -/
def Obligations.OpcodeMapWordsDecode : Prop :=
  decodeTableWord 8 0x00 = some .nop ∧ decodeTableWord 8 0x76 = some .halt ∧
  decodeTableWord 24 0xC01008 = some (.ldAtU16Sp 0xC010#16) ∧ decodeTableWord 24 0x123401 = some (.ldBcU16 0x1234#16) ∧
  decodeTableWord 8 0x22 = some .ldAtHlIncA ∧ decodeTableWord 8 0x3A = some .ldAAtHlDec ∧
  decodeTableWord 16 0x5536 = some (.ldAtHlU8 0x55#8) ∧ decodeTableWord 8 0x66 = some .ldHAtHl ∧
  decodeTableWord 8 0x39 = some .addHlSp ∧ decodeTableWord 8 0x1B = some .decDe ∧ decodeTableWord 8 0x2C = some .incL ∧
  decodeTableWord 8 0x9E = some .sbcAAtHl ∧ decodeTableWord 16 0xFE18 = some (.jrE8 0xFE#8) ∧
  decodeTableWord 16 0xFC20 = some (.jrNzE8 0xFC#8) ∧ decodeTableWord 8 0x10 = some .unmatchedOp10 ∧
  decodeTableWord 8 0x2F = some (.unmatchedColumn7 5#3) ∧ decodeTableWord 8 0xC5 = some (.unimplementedGroup 0#3 5#3) ∧
  decodeTableWord 8 0xCB = some .unimplementedCb

/-- The length of the decoded instruction is that of the length table of R79, from the opcode byte alone (R70): three bytes
for `LD r16,u16` and `LD (u16),SP`, two for `LD r8,u8` and the relative jumps, one for every other opcode. Two for the
forms with an 8-bit immediate is the spec's own decision D8. -/
def Obligations.OpcodeByteGivesLength : Prop :=
  ∀ op b2 b3 : Byte, (decodeLatches op b2 b3).length =
    if op ∈ [0x01#8, 0x11#8, 0x21#8, 0x31#8, 0x08#8] then 3
    else if op ∈ [0x06#8, 0x0E#8, 0x16#8, 0x1E#8, 0x26#8, 0x2E#8, 0x36#8, 0x3E#8, 0x18#8, 0x20#8, 0x28#8, 0x30#8, 0x38#8]
      then 2
    else 1

/-- Which opcode values decode to a fatal opcode, and how many there are: nine unmatched, 64 unimplemented, and the other 183
decode to instructions that execute (R82, R195, R201, R202; that they are fatal is the spec's own decision D11 to D13). -/
def Obligations.OpcodeCensus : Prop :=
  (∀ op b2 b3 : Byte, isUnmatched op ↔
    decodeLatches op b2 b3 = .unmatchedOp10 ∨ ∃ f2, decodeLatches op b2 b3 = .unmatchedColumn7 f2) ∧
  (∀ op b2 b3 : Byte, isUnimplemented op ↔
    decodeLatches op b2 b3 = .unimplementedCb ∨ ∃ f2 f3, decodeLatches op b2 b3 = .unimplementedGroup f2 f3) ∧
  let kind (n : Nat) : Nat := match decodeLatches (BitVec.ofNat 8 n) 0 0 with
    | .unmatchedOp10 | .unmatchedColumn7 _ => 1
    | .unimplementedGroup _ _ | .unimplementedCb => 2
    | _ => 0
  [(List.range 256).countP (kind · = 0), (List.range 256).countP (kind · = 1), (List.range 256).countP (kind · = 2)] =
    [183, 9, 64]

/-! ## The bus and the register views -/

/-- `MemRead(addr, 1)` dispatches on the address range (R42). -/
def Obligations.ReadDispatchesByRange : Prop :=
  ∀ (s : State) (addr : Word),
    s.memRead addr =
      if addr.toNat ≤ 0x3FFF then s.storeByte .rom0 addr.toNat
      else if addr.toNat ≤ 0x7FFF then s.storeByte .rom1 (addr.toNat - 0x4000)
      else if addr.toNat ≤ 0x9FFF then 0x00#8
      else if addr.toNat ≤ 0xBFFF then s.storeByte .xram (addr.toNat - 0xA000)
      else if addr.toNat ≤ 0xCFFF then s.storeByte .wram0 (addr.toNat - 0xC000)
      else if addr.toNat ≤ 0xDFFF then s.storeByte .wram1 (addr.toNat - 0xD000)
      else if addr.toNat ≤ 0xFDFF then s.config.gapRead
      else if addr.toNat ≤ 0xFE9F then 0x00#8
      else if addr.toNat ≤ 0xFEFF then s.config.gapRead
      else 0x00#8

/-- `MemWrite(addr, 1, v)` changes at most the one byte of the one store its range names, and nothing else (R43). -/
def Obligations.WriteDispatchesByRange : Prop :=
  ∀ (s : State) (addr : Word) (v : Byte), Memory.wf s.mem →
    { s.memWrite addr v with mem := s.mem } = s ∧
    ∀ (st : Store) (i : Nat), i < st.size → (s.memWrite addr v).storeByte st i =
      if st = .rom0 ∧ addr.toNat ≤ 0x3FFF ∧ i = addr.toNat then v
      else if st = .rom1 ∧ 0x4000 ≤ addr.toNat ∧ addr.toNat ≤ 0x7FFF ∧ i = addr.toNat - 0x4000 then v
      else if st = .xram ∧ 0xA000 ≤ addr.toNat ∧ addr.toNat ≤ 0xBFFF ∧ i = addr.toNat - 0xA000 then v
      else if st = .wram0 ∧ 0xC000 ≤ addr.toNat ∧ addr.toNat ≤ 0xCFFF ∧ i = addr.toNat - 0xC000 then v
      else if st = .wram1 ∧ 0xD000 ≤ addr.toNat ∧ addr.toNat ≤ 0xDFFF ∧ i = addr.toNat - 0xD000 then v
      else s.storeByte st i

/-- Round trip (R56): a stored address reads back what was written and no other address changes; a stub address reads 0x00
and a gap address `GAP_READ`, whatever was written. -/
def Obligations.WrittenByteReadsBack : Prop :=
  ∀ (s : State) (addr : Word) (v : Byte), Memory.wf s.mem →
    ((addr ≤ 0x7FFF#16 ∨ (0xA000#16 ≤ addr ∧ addr ≤ 0xDFFF#16)) → (s.memWrite addr v).memRead addr = v) ∧
    (∀ x, x ≠ addr → (s.memWrite addr v).memRead x = s.memRead x) ∧
    (((0x8000#16 ≤ addr ∧ addr ≤ 0x9FFF#16) ∨ (0xFE00#16 ≤ addr ∧ addr ≤ 0xFE9F#16) ∨ 0xFF00#16 ≤ addr) →
      (s.memWrite addr v).memRead addr = 0x00#8) ∧
    (((0xE000#16 ≤ addr ∧ addr ≤ 0xFDFF#16) ∨ (0xFEA0#16 ≤ addr ∧ addr ≤ 0xFEFF#16)) →
      (s.memWrite addr v).memRead addr = s.config.gapRead)

/-- A write to a stub region or to a gap is discarded: it changes nothing at all (R45, R46); the default of `GAP_READ` is
0xFF (R46). What a gap does is the spec's own decision D3. -/
def Obligations.StubAndGapWritesDiscarded : Prop :=
  (∀ (s : State) (addr : Word) (v : Byte),
    (0x8000#16 ≤ addr ∧ addr ≤ 0x9FFF#16) ∨ 0xE000#16 ≤ addr → s.memWrite addr v = s) ∧
  State.reset.config.gapRead = 0xFF#8

/-- Two states whose memories are in canonical form and read the same at every address have the same memory: the list of
bytes holds nothing a read cannot see (R26, R41, R55; the canonical form is the model's own, log entry 3). -/
def Obligations.EqualReadsMeanEqualMemory : Prop :=
  ∀ s t : State, Memory.wf s.mem → Memory.wf t.mem →
    (∀ (st : Store) (i : Nat), i < st.size → s.storeByte st i = t.storeByte st i) → s.mem = t.mem

/-- Register pairs (R12): a pair is two registers, high byte first; writing it writes both, and leaves `A` and the registers
of the other pairs alone; `SP` is the fourth pair code and one 16-bit register (R74). -/
def Obligations.PairIsHighByteFirst : Prop :=
  ∀ (s : State) (w : Word),
    (s.readR16 .bc).toNat = s.b.toNat * 256 + s.c.toNat ∧ (s.readR16 .de).toNat = s.d.toNat * 256 + s.e.toNat ∧
    (s.readR16 .hl).toNat = s.h.toNat * 256 + s.l.toNat ∧ s.readR16 .sp = s.sp ∧
    s.writeR16 .bc w = { s with b := BitVec.ofNat 8 (w.toNat / 256), c := BitVec.ofNat 8 (w.toNat % 256) } ∧
    s.writeR16 .de w = { s with d := BitVec.ofNat 8 (w.toNat / 256), e := BitVec.ofNat 8 (w.toNat % 256) } ∧
    s.writeR16 .hl w = { s with h := BitVec.ofNat 8 (w.toNat / 256), l := BitVec.ofNat 8 (w.toNat % 256) } ∧
    s.writeR16 .sp w = { s with sp := w } ∧ ∀ p, (s.writeR16 p w).readR16 p = w

/-- The r8 table (R73): each code reads and writes its register; code 6 reads and writes memory at the current `HL`. -/
def Obligations.R8TableReadsAndWrites : Prop :=
  ∀ (s : State) (v : Byte),
    ([0, 1, 2, 3, 4, 5, 6, 7].map fun k => s.readR8 (R8.ofCode k)) =
      [s.b, s.c, s.d, s.e, s.h, s.l, s.memRead (BitVec.ofNat 16 (s.h.toNat * 256 + s.l.toNat)), s.a] ∧
    ([0, 1, 2, 3, 4, 5, 6, 7].map fun k => s.writeR8 (R8.ofCode k) v) =
      [{ s with b := v }, { s with c := v }, { s with d := v }, { s with e := v }, { s with h := v }, { s with l := v },
        s.memWrite (BitVec.ofNat 16 (s.h.toNat * 256 + s.l.toNat)) v, { s with a := v }]

/-! ## Creation and the host's commands -/

/-- CREATE (R230, R32): every field of the CPU state is zero, the core is RUNNING and awaits FETCH, the ROM banks are zero
and the RAM stores hold `RAM_INIT`. The contents of the stores are the spec's own decision D5. -/
def Obligations.CreationState : Prop :=
  ∀ (cfg : Config) (ram : RamInit), ∃ mem : Memory,
    State.create cfg ram =
      { a := 0, b := 0, c := 0, d := 0, e := 0, h := 0, l := 0, flags := ⟨false, false, false, false⟩, sp := 0, pc := 0,
        ir := 0, b2 := 0, b3 := 0, mem := mem, status := .running, phase := .awaitFetch, romLoaded := false, config := cfg } ∧
    Memory.wf mem ∧
    (∀ i, i < 16384 → (State.create cfg ram).storeByte .rom0 i = 0x00#8 ∧ (State.create cfg ram).storeByte .rom1 i = 0x00#8) ∧
    (∀ i, (h : i < 8192) → (State.create cfg ram).storeByte .xram i = ram.xram[i]) ∧
    (∀ i, (h : i < 4096) → (State.create cfg ram).storeByte .wram0 i = ram.wram0[i]) ∧
    (∀ i, (h : i < 4096) → (State.create cfg ram).storeByte .wram1 i = ram.wram1[i])

/-- The reset state is CREATE with the default parameters: `RAM_INIT` all zero, `GAP_READ` 0xFF, `JR_BASE` 2 (R4, R230,
R234). That reset is CREATE, before any LOAD_ROM, is the model's choice (log entry 4). -/
def Obligations.ResetIsDefaultCreation : Prop :=
  State.create { gapRead := 0xFF#8, jrBase := .two } RamInit.zero = State.reset

/-- LOAD_ROM (R231): where it is legal, an image of at least 32,768 bytes fills the two ROM banks and sets `pc` to 0x0100,
and changes nothing else but the record that a ROM is loaded (log entry 5); a shorter one raises `RomLoadError`. The length
is the spec's own decision D6. -/
def Obligations.LoadRomFillsTheRomBanks : Prop :=
  ∀ (image : List Byte) (s : State), Memory.wf s.mem → s.status = .running → s.phase = .awaitFetch → s.romLoaded = false →
    (image.length < 32768 → s.loadRom image = .fault .romLoadError) ∧
    ((hlen : 32768 ≤ image.length) → ∃ t, s.loadRom image = .next t ∧
      (∀ i, (h : i < 16384) → t.storeByte .rom0 i = image[i] ∧ t.storeByte .rom1 i = image[16384 + i]) ∧
      (∀ (st : Store) (i : Nat), i < st.size → st ≠ .rom0 → st ≠ .rom1 → t.storeByte st i = s.storeByte st i) ∧
      t = { s with mem := t.mem, pc := 0x0100#16, romLoaded := true } ∧ Memory.wf t.mem)

/-- The launch state (R233): CREATE and then a successful LOAD_ROM. It rests on the spec's own decisions D5 and D6. -/
def Obligations.LaunchState : Prop :=
  ∀ (cfg : Config) (ram : RamInit) (image : List Byte), (hlen : 32768 ≤ image.length) →
    ∃ t, (State.create cfg ram).loadRom image = .next t ∧ t.ready ∧
      [t.a, t.b, t.c, t.d, t.e, t.h, t.l, t.ir, t.b2, t.b3] = List.replicate 10 0x00#8 ∧
      t.flags = ⟨false, false, false, false⟩ ∧ t.sp = 0x0000#16 ∧ t.pc = 0x0100#16 ∧ t.config = cfg ∧
      (∀ i, (h : i < 16384) → t.storeByte .rom0 i = image[i] ∧ t.storeByte .rom1 i = image[16384 + i]) ∧
      (∀ i, (h : i < 8192) → t.storeByte .xram i = ram.xram[i]) ∧
      (∀ i, (h : i < 4096) → t.storeByte .wram0 i = ram.wram0[i] ∧ t.storeByte .wram1 i = ram.wram1[i])

/-- The host protocol (R241): FETCH is carried out exactly in a ready state, EXECUTE exactly in a running core that awaits
it, LOAD_ROM exactly in a running core that awaits FETCH with no ROM loaded, a step exactly where FETCH is; every other
command is refused. Refusing is the spec's own decision D27; how a refusal is answered is log entry 7. -/
def Obligations.CommandsOutOfOrderRefused : Prop :=
  ∀ (s : State) (image : List Byte),
    ((∃ r, s.fetchCommand = .refused r) ↔ ¬s.ready) ∧ (s.ready → s.fetchCommand = .next s.fetch) ∧
    ((∃ r, s.executeCommand = .refused r) ↔ ¬(s.status = .running ∧ s.phase = .awaitExecute)) ∧
    ((∃ r, s.loadRom image = .refused r) ↔
      ¬(s.status = .running ∧ s.phase = .awaitFetch ∧ s.romLoaded = false)) ∧
    ((∃ r, step s = .refused r) ↔ ¬s.ready) ∧ (∀ f, step s ≠ .fault f)

/-- FAULTED is terminal (R209, R241): every later command and every later step is refused. The terminal status is the spec's
own decision D14. The reason each refusal names, `coreFaulted` before any reason of the phase or of the load, is the model's
choice (log entry 15), and so is the form of a refusal (log entry 7): the spec says only that the command is refused. -/
def Obligations.FaultedIsTerminal : Prop :=
  ∀ (s : State) (k : FatalKind) (op : Byte) (image : List Byte), s.status = .faulted k op →
    s.fetchCommand = .refused .coreFaulted ∧ s.executeCommand = .refused .coreFaulted ∧
    s.loadRom image = .refused .coreFaulted ∧ step s = .refused .coreFaulted

/-! ## The step -/

/-- Fetch (R101): the three latches are read at `pc`, `pc +16 1`, `pc +16 2`, `pc` advances by 1, the phase changes, and
nothing else does. That all three reads are always made is the spec's own decision D34. -/
def Obligations.FetchLatchesThreeBytes : Prop :=
  ∀ s : State, s.fetch =
    { s with ir := s.memRead s.pc, b2 := s.memRead (s.pc + 1#16), b3 := s.memRead (s.pc + 2#16), pc := s.pc + 1#16,
             phase := .awaitExecute }

/-- A step runs the decoded instruction: where the bytes at `pc` decode to `i`, the step is `exec i` from the fetched state,
after which the core awaits FETCH again (R100, R102). -/
def Obligations.StepRunsDecodedInstruction : Prop :=
  ∀ (s : State) (i : Instr) (rest : List Byte), s.ready →
    decode [s.memRead s.pc, s.memRead (s.pc + 1#16), s.memRead (s.pc + 2#16)] = .ok (i, rest) →
    step s =
      match exec i s.fetch with
      | .next t => .next { t with phase := .awaitFetch }
      | .fault r => .fault r
      | .refused r => .refused r

/-- From every ready state a step answers a next state that awaits FETCH: it is never a refusal or a fault, whatever the
opcode, the addresses and the memory (R100, R102, R205). For one of the 73 fatal opcodes, which the spec says stops the step
and never completes (R9, R72), that next state is the FAULTED one of R206: answering it as a next state is the model's reading
of the spec's own decision D14 (log entry 6). -/
def Obligations.ReadyStepCompletes : Prop :=
  ∀ s : State, s.ready → ∃ t, step s = .next t ∧ t.phase = .awaitFetch

/-- Fetch coherence (R61): a stored byte is what a later fetch of its address latches; and `LD (u16),SP` stores where its
latched immediates say, also when it overwrites its own operand bytes. The coherence is the spec's own decision D24. -/
def Obligations.StoresAreSeenByLaterFetches : Prop :=
  (∀ (s : State) (x : Word) (v : Byte), Memory.wf s.mem → isStored x = true →
    ({ s.memWrite x v with pc := x } : State).fetch.ir = v) ∧
  (∀ s : State, Memory.wf s.mem → s.ready → s.memRead s.pc = 0x08#8 →
    let nn : Word := BitVec.ofNat 16 ((s.memRead (s.pc + 2#16)).toNat * 256 + (s.memRead (s.pc + 1#16)).toNat)
    ∃ t, step s = .next t ∧
      ∀ x, t.memRead x =
        if isStored x = true ∧ x = nn then BitVec.ofNat 8 s.sp.toNat
        else if isStored x = true ∧ x = nn + 1#16 then BitVec.ofNat 8 (s.sp.toNat / 256)
        else s.memRead x)

/-- Every 16-bit immediate is little-endian in memory (R50, R78), for each of the five opcodes that take one. A step on
`LD r16,u16`, whichever the pair, loads it with the low byte from `a0 +16 1` and the high byte from `a0 +16 2`, and ends at
`a0 +16 3` (R122); the bytes of `LD (u16),SP` decode to the address assembled in the same order, and the step runs that
instruction (R121). -/
def Obligations.ImmediateWordIsLittleEndian : Prop :=
  ∀ s : State, s.ready →
    let low := s.memRead (s.pc + 1#16)
    let high := s.memRead (s.pc + 2#16)
    (∀ p : R16, s.memRead s.pc = BitVec.ofNat 8 (0x01 + 16 * p.code) →
      ∃ t, step s = .next t ∧ (t.readR16 p).toNat = high.toNat * 256 + low.toNat ∧ t.pc = s.pc + 3#16) ∧
    (s.memRead s.pc = 0x08#8 → ∃ (nn : Word) (t : State), nn.toNat = high.toNat * 256 + low.toNat ∧
      decode [s.memRead s.pc, low, high] = .ok (.ldAtU16Sp nn, []) ∧
      exec (.ldAtU16Sp nn) s.fetch = .next t ∧ step s = .next { t with phase := .awaitFetch })

/-! ## The instructions: NOP, HALT, loads and stores -/

/-- NOP and HALT do nothing: `pc` stays one past the opcode byte, as the fetch left it (R104, R105). For HALT that is the
spec's own decision D21. -/
def Obligations.NopAndHaltDoNothing : Prop :=
  Instr.nop.encode = [0x00#8] ∧ Instr.halt.encode = [0x76#8] ∧
  ∀ s : State, exec .nop s = .next s ∧ exec .halt s = .next s ∧ s.pc = s.a0 + 1#16

/-- `LD r8,r8` (R126): the destination gets the source's value, read before the write; a store goes to `HL` and nowhere
else, and is discarded where the address is not stored. -/
def Obligations.MoveR8ToR8 : Prop :=
  ∀ (d r : R8) (s : State), Memory.wf s.mem → ¬(d = .atHl ∧ r = .atHl) →
    (Instr.move8 d r).encode = [BitVec.ofNat 8 (0x40 + 8 * d.code + r.code)] ∧
    ∃ t, exec (Instr.move8 d r) s = .next t ∧
      (∀ x, t.reg x = if d = .reg x then s.readR8 r else s.reg x) ∧
      (∀ x, t.memRead x = if d = .atHl ∧ x = s.hl ∧ isStored x = true then s.readR8 r else s.memRead x) ∧
      t.flags = s.flags ∧ t.sp = s.sp ∧ t.pc = s.a0 + 1#16 ∧ KeepsMachine s t

/-- `LD r8,u8` (R125): the destination gets the immediate, and `pc` passes the immediate byte, which is the spec's own
decision D8. -/
def Obligations.LoadR8Immediate : Prop :=
  ∀ (d : R8) (n : Byte) (s : State), Memory.wf s.mem →
    (Instr.loadImm8 d n).encode = [BitVec.ofNat 8 (0x06 + 8 * d.code), n] ∧
    ∃ t, exec (Instr.loadImm8 d n) s = .next t ∧
      (∀ x, t.reg x = if d = .reg x then n else s.reg x) ∧
      (∀ x, t.memRead x = if d = .atHl ∧ x = s.hl ∧ isStored x = true then n else s.memRead x) ∧
      t.flags = s.flags ∧ t.sp = s.sp ∧ t.pc = s.a0 + 2#16 ∧ KeepsMachine s t

/-- `LD r16,u16` (R122): the pair gets the immediate, high byte in the pair's first register, and `pc` passes the two
immediate bytes; nothing else changes. -/
def Obligations.LoadPairImmediate : Prop :=
  ∀ (p : R16) (nn : Word) (s : State),
    let high := BitVec.ofNat 8 (nn.toNat / 256)
    let low := BitVec.ofNat 8 nn.toNat
    (Instr.loadPair p nn).encode = [BitVec.ofNat 8 (0x01 + 16 * p.code), low, high] ∧
    exec (Instr.loadPair p nn) s = .next
      (match p with
        | .bc => { s with b := high, c := low, pc := s.a0 + 3#16 }
        | .de => { s with d := high, e := low, pc := s.a0 + 3#16 }
        | .hl => { s with h := high, l := low, pc := s.a0 + 3#16 }
        | .sp => { s with sp := nn, pc := s.a0 + 3#16 })

/-- `LD (u16),SP` (R121): the low byte of `sp` at `nn`, the high byte at `nn +16 1`, each discarded where its address is not
stored; no register, no flag and no other byte changes. -/
def Obligations.StoreStackPointer : Prop :=
  ∀ (nn : Word) (s : State), Memory.wf s.mem →
    (Instr.ldAtU16Sp nn).encode = [0x08#8, BitVec.ofNat 8 nn.toNat, BitVec.ofNat 8 (nn.toNat / 256)] ∧
    ∃ t, exec (.ldAtU16Sp nn) s = .next t ∧
      (∀ x, t.memRead x =
        if isStored x = true ∧ x = nn then BitVec.ofNat 8 s.sp.toNat
        else if isStored x = true ∧ x = nn + 1#16 then BitVec.ofNat 8 (s.sp.toNat / 256)
        else s.memRead x) ∧
      (∀ x, t.reg x = s.reg x) ∧ t.flags = s.flags ∧ t.sp = s.sp ∧ t.pc = s.a0 + 3#16 ∧ KeepsMachine s t

/-- `LD (r16mem),A` (R123): `A` goes to the address the pair held before any change; (HL+) and (HL-) move `HL` once, with
wrapping; a store to an address that is not stored is discarded and `HL` still changes. -/
def Obligations.StoreAThroughPair : Prop :=
  ∀ (m : R16mem) (s : State), Memory.wf s.mem →
    (Instr.storeA m).encode = [BitVec.ofNat 8 (0x02 + 16 * m.code)] ∧
    ∃ t, exec (Instr.storeA m) s = .next t ∧
      (∀ x, t.memRead x =
        if isStored x = true ∧ x = (match m with | .atBc => s.bc | .atDe => s.de | .atHlInc => s.hl | .atHlDec => s.hl)
        then s.a else s.memRead x) ∧
      t.hl = (match m with | .atBc => s.hl | .atDe => s.hl | .atHlInc => s.hl + 1#16 | .atHlDec => s.hl - 1#16) ∧
      KeepsRegsBut [.h, .l] s t ∧ t.flags = s.flags ∧ t.sp = s.sp ∧ t.pc = s.a0 + 1#16 ∧ KeepsMachine s t

/-- `LD A,(r16mem)` (R124): `A` gets the byte at the address the pair held before any change; (HL+) and (HL-) move `HL`
once, with wrapping; no memory changes. -/
def Obligations.LoadAThroughPair : Prop :=
  ∀ (m : R16mem) (s : State),
    (Instr.loadA m).encode = [BitVec.ofNat 8 (0x0A + 16 * m.code)] ∧
    ∃ t, exec (Instr.loadA m) s = .next t ∧
      t.a = s.memRead (match m with | .atBc => s.bc | .atDe => s.de | .atHlInc => s.hl | .atHlDec => s.hl) ∧
      t.hl = (match m with | .atBc => s.hl | .atDe => s.hl | .atHlInc => s.hl + 1#16 | .atHlDec => s.hl - 1#16) ∧
      KeepsRegsBut [.a, .h, .l] s t ∧ (∀ x, t.memRead x = s.memRead x) ∧ t.flags = s.flags ∧ t.sp = s.sp ∧
      t.pc = s.a0 + 1#16 ∧ KeepsMachine s t

/-! ## The instructions: arithmetic and logic -/

/-- `ADD HL,r16` (R140): the wrapped sum of the two old values into `HL`; Subtract reset, HalfCarry out of bit 11, Carry out
of bit 15, Zero kept; nothing else changes. -/
def Obligations.AddPairToHl : Prop :=
  ∀ (p : R16) (s : State),
    let x := s.h.toNat * 256 + s.l.toNat
    let y := (s.readR16 p).toNat
    (Instr.addHl p).encode = [BitVec.ofNat 8 (0x09 + 16 * p.code)] ∧
    exec (Instr.addHl p) s = .next
      { s with
        h := BitVec.ofNat 8 ((x + y) / 256)
        l := BitVec.ofNat 8 (x + y)
        flags := { z := s.flags.z, n := false, h := decide (0x0FFF < x % 4096 + y % 4096), c := decide (0xFFFF < x + y) } } ∧
    s.pc = s.a0 + 1#16

/-- `INC r16` and `DEC r16` (R141, R142): the pair moves by one with wrapping; no flag, no other pair and nothing else
changes. That no flag changes is the spec's own decision D15. -/
def Obligations.IncrementAndDecrementPair : Prop :=
  ∀ (p : R16) (s : State),
    (Instr.inc16 p).encode = [BitVec.ofNat 8 (0x03 + 16 * p.code)] ∧
    (Instr.dec16 p).encode = [BitVec.ofNat 8 (0x0B + 16 * p.code)] ∧
    ∃ t u, exec (Instr.inc16 p) s = .next t ∧ exec (Instr.dec16 p) s = .next u ∧
      (t.readR16 p).toNat = ((s.readR16 p).toNat + 1) % 65536 ∧
      (u.readR16 p).toNat = ((s.readR16 p).toNat + 65535) % 65536 ∧
      ∀ v ∈ [t, u], (∀ q, q ≠ p → v.readR16 q = s.readR16 q) ∧ v.a = s.a ∧ v.flags = s.flags ∧
        (∀ x, v.memRead x = s.memRead x) ∧ v.pc = s.a0 + 1#16 ∧ KeepsMachine s v

/-- `INC r8` and `DEC r8` (R153, R154): the operand moves by one with wrapping; Zero from the result, Subtract 0 or 1,
HalfCarry from the low nibble, Carry kept; for (HL) the byte at `HL` is read and written and no other byte changes.
The HalfCarry formulas are the spec's own decision D18. -/
def Obligations.IncrementAndDecrementR8 : Prop :=
  ∀ (o : R8) (s : State), Memory.wf s.mem →
    let v := s.readR8 o
    (Instr.inc8 o).encode = [BitVec.ofNat 8 (0x04 + 8 * o.code)] ∧
    (Instr.dec8 o).encode = [BitVec.ofNat 8 (0x05 + 8 * o.code)] ∧
    ∃ t u, exec (Instr.inc8 o) s = .next t ∧ exec (Instr.dec8 o) s = .next u ∧
      t.flags = { z := decide (v = 0xFF#8), n := false, h := decide (v.toNat % 16 = 15), c := s.flags.c } ∧
      u.flags = { z := decide (v = 0x01#8), n := true, h := decide (v.toNat % 16 = 0), c := s.flags.c } ∧
      ∀ w ∈ [(t, BitVec.ofNat 8 (v.toNat + 1)), (u, BitVec.ofNat 8 (v.toNat + 255))],
        (∀ x, w.1.reg x = if o = .reg x then w.2 else s.reg x) ∧
        (∀ x, w.1.memRead x = if o = .atHl ∧ x = s.hl ∧ isStored x = true then w.2 else s.memRead x) ∧
        w.1.sp = s.sp ∧ w.1.pc = s.a0 + 1#16 ∧ KeepsMachine s w.1

/-- `ADD A,r8`, `SUB A,r8` and `CP A,r8` (R156, R158, R163): the result modulo 256 into `A`, which CP keeps, and all four
flags, Zero from the result; nothing else changes. -/
def Obligations.AddSubtractAndCompare : Prop :=
  ∀ (o : R8) (s : State),
    let a := s.a.toNat
    let v := (s.readR8 o).toNat
    (Instr.alu .add o).encode = [BitVec.ofNat 8 (0x80 + o.code)] ∧
    (Instr.alu .sub o).encode = [BitVec.ofNat 8 (0x90 + o.code)] ∧
    (Instr.alu .cp o).encode = [BitVec.ofNat 8 (0xB8 + o.code)] ∧
    exec (Instr.alu .add o) s = .next
      { s with
        a := BitVec.ofNat 8 (a + v)
        flags := { z := decide ((a + v) % 256 = 0), n := false, h := decide (0x10 ≤ a % 16 + v % 16), c := decide (0x100 ≤ a + v) } } ∧
    exec (Instr.alu .sub o) s = .next
      { s with
        a := BitVec.ofNat 8 (a + 256 - v)
        flags := { z := decide (a = v), n := true, h := decide (a % 16 < v % 16), c := decide (a < v) } } ∧
    exec (Instr.alu .cp o) s = .next
      { s with flags := { z := decide (a = v), n := true, h := decide (a % 16 < v % 16), c := decide (a < v) } } ∧
    s.pc = s.a0 + 1#16

/-- `ADC A,r8` and `SBC A,r8` (R157, R159): the carry is folded into the operand by an 8-bit wrapping addition, and the
result and all four flags are those of ADD and SUB with that operand; nothing else changes. The fold is the spec's own
decision (D16, D17). -/
def Obligations.AddAndSubtractWithCarry : Prop :=
  ∀ (o : R8) (s : State),
    let a := s.a.toNat
    let v := (s.readR8 o).toNat
    let rhs := (v + s.flags.c.toNat) % 256
    (Instr.alu .adc o).encode = [BitVec.ofNat 8 (0x88 + o.code)] ∧
    (Instr.alu .sbc o).encode = [BitVec.ofNat 8 (0x98 + o.code)] ∧
    exec (Instr.alu .adc o) s = .next
      { s with
        a := BitVec.ofNat 8 (a + v + s.flags.c.toNat)
        flags := { z := decide ((a + rhs) % 256 = 0), n := false, h := decide (0x10 ≤ a % 16 + rhs % 16),
                   c := decide (0x100 ≤ a + rhs) } } ∧
    exec (Instr.alu .sbc o) s = .next
      { s with
        a := BitVec.ofNat 8 (a + 512 - v - s.flags.c.toNat)
        flags := { z := decide (a = rhs), n := true, h := decide (a % 16 < rhs % 16), c := decide (a < rhs) } } ∧
    s.pc = s.a0 + 1#16

/-- `AND A,r8`, `XOR A,r8` and `OR A,r8` (R160, R161, R162): each bit of the result, Zero from the result, HalfCarry 1 for
AND and 0 for the others, Subtract and Carry reset; nothing else changes. -/
def Obligations.LogicOperations : Prop :=
  ∀ (o : R8) (s : State),
    let v := s.readR8 o
    (Instr.alu .and o).encode = [BitVec.ofNat 8 (0xA0 + o.code)] ∧
    (Instr.alu .xor o).encode = [BitVec.ofNat 8 (0xA8 + o.code)] ∧
    (Instr.alu .or o).encode = [BitVec.ofNat 8 (0xB0 + o.code)] ∧
    ∃ x y z : Byte, (∀ k, x.getLsbD k = (s.a.getLsbD k && v.getLsbD k) ∧ y.getLsbD k = (s.a.getLsbD k ^^ v.getLsbD k) ∧
        z.getLsbD k = (s.a.getLsbD k || v.getLsbD k)) ∧
      exec (Instr.alu .and o) s = .next { s with a := x, flags := ⟨decide (x = 0), false, true, false⟩ } ∧
      exec (Instr.alu .xor o) s = .next { s with a := y, flags := ⟨decide (y = 0), false, false, false⟩ } ∧
      exec (Instr.alu .or o) s = .next { s with a := z, flags := ⟨decide (z = 0), false, false, false⟩ } ∧
      s.pc = s.a0 + 1#16

/-! ## The instructions: relative jumps -/

/-- `JR e8` (R180): `pc` is the base plus the offset read as a signed byte, with wrapping, and nothing else changes; the base
is `a0 +16 2`, or `a0 +16 1` where the optional `JR_BASE` is 1 (R4). The base is the spec's own decision D9 (log entry 9). -/
def Obligations.RelativeJump : Prop :=
  ∀ (e : Byte) (s : State),
    let offset : Word := if e.toNat < 128 then BitVec.ofNat 16 e.toNat else BitVec.ofNat 16 (e.toNat + 0xFF00)
    (Instr.jrE8 e).encode = [0x18#8, e] ∧
    (s.config.jrBase = .two → exec (.jrE8 e) s = .next { s with pc := s.a0 + 2#16 + offset }) ∧
    (s.config.jrBase = .one → exec (.jrE8 e) s = .next { s with pc := s.a0 + 1#16 + offset })

/-- `JR cc,e8` (R181, R182): taken, it is `JR e8`; not taken, `pc` passes the offset byte, `a0 +16 2`; the condition is NZ,
Z, NC or C by the code; nothing else changes. The base and the `pc` of a jump not taken are the spec's own decisions D9 and
D10 (log entry 9). -/
def Obligations.ConditionalRelativeJump : Prop :=
  ∀ (cc : Cond) (e : Byte) (s : State),
    let offset : Word := if e.toNat < 128 then BitVec.ofNat 16 e.toNat else BitVec.ofNat 16 (e.toNat + 0xFF00)
    let taken : Prop := match cc with
      | .nz => s.flags.z = false
      | .z => s.flags.z = true
      | .nc => s.flags.c = false
      | .c => s.flags.c = true
    (Instr.jumpRelativeIf cc e).encode = [BitVec.ofNat 8 (0x20 + 8 * cc.code), e] ∧
    (taken → s.config.jrBase = .two → exec (Instr.jumpRelativeIf cc e) s = .next { s with pc := s.a0 + 2#16 + offset }) ∧
    (taken → s.config.jrBase = .one → exec (Instr.jumpRelativeIf cc e) s = .next { s with pc := s.a0 + 1#16 + offset }) ∧
    (¬taken → exec (Instr.jumpRelativeIf cc e) s = .next { s with pc := s.a0 + 2#16 })

/-! ## Fatal opcodes -/

/-- The fatal opcodes (R190, R191, R192, R193): the status records the kind and the opcode, the phase is AWAIT_FETCH, and
nothing else changes; `pc` stays one past the opcode byte. That they are fatal, and how, is the spec's own decision D11 to
D14 (log entry 6). -/
def Obligations.FatalOpcodesEnterFaulted : Prop :=
  ∀ (f2 f3 : BitVec 3) (s : State),
    Instr.unmatchedOp10.encode = [0x10#8] ∧ Instr.unimplementedCb.encode = [0xCB#8] ∧
    (Instr.unmatchedColumn7 f2).encode = [BitVec.ofNat 8 (8 * f2.toNat + 7)] ∧
    (Instr.unimplementedGroup f2 f3).encode = [BitVec.ofNat 8 (0xC0 + 8 * f2.toNat + f3.toNat)] ∧
    exec .unmatchedOp10 s = .next { s with status := .faulted .unmatched 0x10#8, phase := .awaitFetch } ∧
    exec (.unmatchedColumn7 f2) s = .next
      { s with status := .faulted .unmatched (BitVec.ofNat 8 (8 * f2.toNat + 7)), phase := .awaitFetch } ∧
    exec (.unimplementedGroup f2 f3) s = .next
      { s with status := .faulted .unimplemented (BitVec.ofNat 8 (0xC0 + 8 * f2.toNat + f3.toNat)), phase := .awaitFetch } ∧
    exec .unimplementedCb s = .next { s with status := .faulted .unimplemented 0xCB#8, phase := .awaitFetch } ∧
    s.pc = s.a0 + 1#16

/-- A step on a fatal opcode (R201, R202, R206): the kind and the opcode are recorded, and the rest of the state is as the
fetch left it, but for the phase. It rests on the spec's own decisions D11 to D14. -/
def Obligations.FatalStepReportsItsOpcode : Prop :=
  ∀ s : State, s.ready →
    (isUnmatched (s.memRead s.pc) →
      step s = .next { s.fetch with status := .faulted .unmatched (s.memRead s.pc), phase := .awaitFetch }) ∧
    (isUnimplemented (s.memRead s.pc) →
      step s = .next { s.fetch with status := .faulted .unimplemented (s.memRead s.pc), phase := .awaitFetch })

/-- Precision (R203, R207): a step ends FAULTED only on one of the 73 fatal opcodes, under the kind of that opcode, never as
a resolver error, and then changes only what its fetch changed, the status and the phase. -/
def Obligations.OnlyFatalOpcodesFault : Prop :=
  ∀ (s t : State) (k : FatalKind) (op : Byte), step s = .next t → t.status = .faulted k op →
    op = s.memRead s.pc ∧
    ((k = .unmatched ∧ isUnmatched op) ∨ (k = .unimplemented ∧ isUnimplemented op)) ∧
    t = { s with ir := s.memRead s.pc, b2 := s.memRead (s.pc + 1#16), b3 := s.memRead (s.pc + 2#16), pc := s.pc + 1#16,
                 status := .faulted k op }

/-! ## Whole-machine rules -/

/-- Only `ADD HL,r16`, `INC r8`, `DEC r8` and the ALU group change a flag (R21). That the others change none is the spec's own
decision D15. -/
def Obligations.OnlyArithmeticChangesFlags : Prop :=
  ∀ s t : State, step s = .next t → t.flags ≠ s.flags →
    let op := (s.memRead s.pc).toNat
    op ∈ [0x09, 0x19, 0x29, 0x39] ∨ (op < 0x40 ∧ op % 8 = 4) ∨ (op < 0x40 ∧ op % 8 = 5) ∨ (0x80 ≤ op ∧ op ≤ 0xBF)

/-- Only `LD SP,u16`, `INC SP` and `DEC SP` change `sp` (R13). -/
def Obligations.OnlyThreeInstructionsChangeSp : Prop :=
  ∀ s t : State, step s = .next t → t.sp ≠ s.sp → s.memRead s.pc ∈ [0x31#8, 0x33#8, 0x3B#8]

/-- Only the storing instructions change memory (R53): `LD (u16),SP`, `LD (r16mem),A`, `INC (HL)`, `DEC (HL)`, `LD (HL),u8`
and `LD (HL),r`. -/
def Obligations.OnlyStoresChangeMemory : Prop :=
  ∀ s t : State, step s = .next t → t.mem ≠ s.mem →
    s.memRead s.pc ∈ [0x08#8, 0x02#8, 0x12#8, 0x22#8, 0x32#8, 0x34#8, 0x35#8, 0x36#8, 0x70#8, 0x71#8, 0x72#8, 0x73#8, 0x74#8,
      0x75#8, 0x77#8]

/-- The final `pc` of a step (R79): past the instruction's bytes by the length table, one past the opcode byte for a fatal
opcode, and for a relative jump past its two bytes or, where it is taken, at `a0 +16 2` (the normative `JR_BASE`) plus the
signed offset. It rests on the spec's own decisions D8, D9 and D10. -/
def Obligations.StepEndsPastTheInstruction : Prop :=
  ∀ s t : State, s.config.jrBase = .two → step s = .next t →
    let op := s.memRead s.pc
    let b2 := s.memRead (s.pc + 1#16)
    let offset : Word := if b2.toNat < 128 then BitVec.ofNat 16 b2.toNat else BitVec.ofNat 16 (b2.toNat + 0xFF00)
    t.pc =
      if op ∈ [0x01#8, 0x11#8, 0x21#8, 0x31#8, 0x08#8] then s.pc + 3#16
      else if op ∈ [0x06#8, 0x0E#8, 0x16#8, 0x1E#8, 0x26#8, 0x2E#8, 0x36#8, 0x3E#8] then s.pc + 2#16
      else if op = 0x18#8 then s.pc + 2#16 + offset
      else if op = 0x20#8 then (if s.flags.z = false then s.pc + 2#16 + offset else s.pc + 2#16)
      else if op = 0x28#8 then (if s.flags.z = true then s.pc + 2#16 + offset else s.pc + 2#16)
      else if op = 0x30#8 then (if s.flags.c = false then s.pc + 2#16 + offset else s.pc + 2#16)
      else if op = 0x38#8 then (if s.flags.c = true then s.pc + 2#16 + offset else s.pc + 2#16)
      else s.pc + 1#16

/-- After a step the latches hold the three bytes its fetch read (R27, R101), the parameters are the same, a ROM is loaded and
the core awaits FETCH. -/
def Obligations.StepLeavesFetchedLatches : Prop :=
  ∀ s t : State, step s = .next t →
    t.ir = s.memRead s.pc ∧ t.b2 = s.memRead (s.pc + 1#16) ∧ t.b3 = s.memRead (s.pc + 2#16) ∧ t.config = s.config ∧
    t.romLoaded = true ∧ t.phase = .awaitFetch

/-- The invariant holds at reset, after CREATE, and after a successful LOAD_ROM of a state that has it. -/
def Obligations.InvariantHoldsAtStart : Prop :=
  State.reset.Inv ∧ (∀ cfg ram, (State.create cfg ram).Inv) ∧
  ∀ (s t : State) (image : List Byte), s.Inv → s.loadRom image = .next t → t.Inv

/-- Every step keeps the invariant: memory stays in canonical form, and a recorded fault is one the spec names, with the
latched opcode, between steps (R28, R201, R202, R203, R206). -/
def Obligations.StepKeepsInvariant : Prop :=
  ∀ s t : State, s.Inv → step s = .next t → t.Inv

/-! ## Properties of pairs of instructions -/

/-- `INC` then `DEC` of the same r8 operand returns it to its value and leaves Carry unmodified (R153, R154), for every
operand, (HL) where `HL` is stored. -/
def Obligations.IncrementThenDecrementR8 : Prop :=
  ∀ (o : R8) (s : State), Memory.wf s.mem → (o = .atHl → isStored s.hl = true) →
    ∃ t u, exec (Instr.inc8 o) s = .next t ∧ exec (Instr.dec8 o) t = .next u ∧ u.readR8 o = s.readR8 o ∧
      u.flags.c = s.flags.c ∧ u.flags.n = true ∧ (∀ x, u.reg x = s.reg x) ∧ (∀ x, u.memRead x = s.memRead x)

/-- `INC r16` then `DEC r16` of the same pair, and `DEC` then `INC`, restore the whole state but `pc`, which each leaves where
its fetch did (R141, R142); so `LD (HL+),A` then `DEC HL`, and `LD (HL-),A` then `INC HL`, restore `HL` (R123). -/
def Obligations.PairMovesCancel : Prop :=
  (∀ (p : R16) (s : State), ∃ t u, exec (Instr.inc16 p) s = .next t ∧ exec (Instr.dec16 p) t = .next s ∧
    exec (Instr.dec16 p) s = .next u ∧ exec (Instr.inc16 p) u = .next s) ∧
  ∀ s : State, ∃ t u t' u', exec .ldAtHlIncA s = .next t ∧ exec .decHl t = .next u ∧ u.hl = s.hl ∧ u.flags = s.flags ∧
    exec .ldAtHlDecA s = .next t' ∧ exec .incHl t' = .next u' ∧ u'.hl = s.hl ∧ u'.flags = s.flags

/-- The carry fold (R157, R159) beside a three-input adder: with Carry clear, ADC is ADD and SBC is SUB; the HalfCarry and
Carry of both are the three-input adder's whenever Carry is clear or the operand's low nibble is not 0xF; with Carry set and
a low nibble of 0xF both clear HalfCarry, where the three-input adder sets it; there Carry is still the three-input adder's
unless the operand is 0xFF, and then both leave `A` and clear Carry, where the three-input adder sets it. The fold is the
spec's own decision (D16, D17). -/
def Obligations.CarryFoldAgainstThreeInputAdder : Prop :=
  ∀ (o : R8) (s : State),
    let a := s.a.toNat
    let v := (s.readR8 o).toNat
    let c := s.flags.c.toNat
    (s.flags.c = false → exec (Instr.alu .adc o) s = exec (Instr.alu .add o) s ∧
      exec (Instr.alu .sbc o) s = exec (Instr.alu .sub o) s) ∧
    ∃ t u, exec (Instr.alu .adc o) s = .next t ∧ exec (Instr.alu .sbc o) s = .next u ∧
      (s.flags.c = false ∨ v % 16 ≠ 15 →
        t.flags.h = decide (0x10 ≤ a % 16 + v % 16 + c) ∧ t.flags.c = decide (0x100 ≤ a + v + c) ∧
        u.flags.h = decide (a % 16 < v % 16 + c) ∧ u.flags.c = decide (a < v + c)) ∧
      (s.flags.c = true → v % 16 = 15 → v ≠ 255 →
        t.flags.h = false ∧ 0x10 ≤ a % 16 + v % 16 + c ∧ t.flags.c = decide (0x100 ≤ a + v + c) ∧
        u.flags.h = false ∧ a % 16 < v % 16 + c ∧ u.flags.c = decide (a < v + c)) ∧
      (s.flags.c = true → v = 255 →
        t.a = s.a ∧ t.flags.h = false ∧ t.flags.c = false ∧ 0x10 ≤ a % 16 + v % 16 + c ∧ 0x100 ≤ a + v + c ∧
        u.a = s.a ∧ u.flags.h = false ∧ u.flags.c = false ∧ a % 16 < v % 16 + c ∧ a < v + c)
end

