-- ==== Sys2Proof/Laws/Decode.lean ====
section
/-! SUPPORT. The decoder and the byte helpers: a pair of bytes and its halves, and decoding three latched bytes. -/

namespace Sys2Proof

@[simp] theorem wordOf_hi_lo (w : Word) : wordOf (hiByte w) (loByte w) = w := by
  unfold wordOf hiByte loByte
  rw [BitVec.extractLsb'_append_extractLsb'_eq_extractLsb' (by rfl)]
  exact BitVec.extractLsb'_eq_self

@[simp] theorem hiByte_wordOf (x y : Byte) : hiByte (wordOf x y) = x := by
  apply BitVec.eq_of_toNat_eq
  have := y.isLt
  simp only [hiByte, wordOf, BitVec.extractLsb'_toNat, BitVec.toNat_append, Nat.shiftRight_eq_div_pow]
  rw [← Nat.shiftLeft_add_eq_or_of_lt this, Nat.shiftLeft_eq]
  omega

@[simp] theorem loByte_wordOf (x y : Byte) : loByte (wordOf x y) = y := by
  apply BitVec.eq_of_toNat_eq
  have := y.isLt
  simp only [loByte, wordOf, BitVec.extractLsb'_toNat, BitVec.toNat_append, Nat.shiftRight_zero]
  rw [← Nat.shiftLeft_add_eq_or_of_lt this, Nat.shiftLeft_eq]
  omega

/-- The high half of a word by arithmetic (R9). -/
theorem hiByte_eq (w : Word) : hiByte w = BitVec.ofNat 8 (w.toNat / 256) := by
  apply BitVec.eq_of_toNat_eq
  simp [hiByte, BitVec.extractLsb'_toNat, Nat.shiftRight_eq_div_pow]

/-- The low half of a word by arithmetic (R9). -/
theorem loByte_eq (w : Word) : loByte w = BitVec.ofNat 8 w.toNat := by
  apply BitVec.eq_of_toNat_eq
  simp [loByte, BitVec.extractLsb'_toNat]

/-- The pair view as arithmetic: `{h, l} = h * 256 + l` (R9). -/
theorem wordOf_toNat (x y : Byte) : (wordOf x y).toNat = x.toNat * 256 + y.toNat := by
  simp only [wordOf, BitVec.toNat_append]
  rw [← Nat.shiftLeft_add_eq_or_of_lt y.isLt, Nat.shiftLeft_eq]

theorem wordOf_inj {x y x' y' : Byte} : wordOf x y = wordOf x' y' ↔ x = x' ∧ y = y' :=
  ⟨fun h => ⟨by simpa using congrArg hiByte h, by simpa using congrArg loByte h⟩, fun ⟨hx, hy⟩ => by rw [hx, hy]⟩

/-! ## The opcode fields -/

/-- The three fields determine the opcode byte. -/
theorem opcodeOf_fields : ∀ op : Byte, opcodeOf (field1 op) (field2 op) (field3 op) = op := by decide

theorem field1_opcodeOf : ∀ (f1 : BitVec 2) (f2 f3 : BitVec 3), field1 (opcodeOf f1 f2 f3) = f1 := by decide
theorem field2_opcodeOf : ∀ (f1 : BitVec 2) (f2 f3 : BitVec 3), field2 (opcodeOf f1 f2 f3) = f2 := by decide
theorem field3_opcodeOf : ∀ (f1 : BitVec 2) (f2 f3 : BitVec 3), field3 (opcodeOf f1 f2 f3) = f3 := by decide

/-- An opcode takes no, one or two immediate bytes (R79). -/
theorem immediateCount_le : ∀ op : Byte, immediateCount op ≤ 2 := by decide

/-! ## The fatal groups -/

theorem immediateCount_column7 : ∀ f2 : BitVec 3, immediateCount (opcodeOf 0#2 f2 7#3) = 0 := by decide
theorem immediateCount_quarter3 : ∀ f2 f3 : BitVec 3, immediateCount (opcodeOf 3#2 f2 f3) = 0 := by decide
theorem immediateCount_field1_1 : ∀ f2 f3 : BitVec 3, immediateCount (opcodeOf 1#2 f2 f3) = 0 := by decide
theorem immediateCount_field1_2 : ∀ f2 f3 : BitVec 3, immediateCount (opcodeOf 2#2 f2 f3) = 0 := by decide
theorem decodeLatches_column7 : ∀ f2 : BitVec 3, decodeLatches (opcodeOf 0#2 f2 7#3) 0 0 = .unmatchedColumn7 f2 := by decide

theorem decodeLatches_quarter3 : ∀ f2 f3 : BitVec 3, (Instr.unimplementedGroup f2 f3).wellFormed = true →
    decodeLatches (opcodeOf 3#2 f2 f3) 0 0 = .unimplementedGroup f2 f3 := by decide

/-- Decoding an opcode with no immediate. -/
theorem decode_noImmediate (op : Byte) (rest : List Byte) (h : immediateCount op = 0) :
    decode (op :: rest) = .ok (decodeLatches op 0 0, rest) := by
  simp only [decode, h]
  rfl

theorem decode_unmatchedColumn7 (f2 : BitVec 3) (rest : List Byte) :
    decode ((Instr.unmatchedColumn7 f2).encode ++ rest) = .ok (.unmatchedColumn7 f2, rest) := by
  have := decode_noImmediate _ rest (immediateCount_column7 f2)
  rwa [decodeLatches_column7 f2] at this

theorem decode_unimplementedGroup (f2 f3 : BitVec 3) (h : (Instr.unimplementedGroup f2 f3).wellFormed = true)
    (rest : List Byte) :
    decode ((Instr.unimplementedGroup f2 f3).encode ++ rest) = .ok (.unimplementedGroup f2 f3, rest) := by
  have := decode_noImmediate _ rest (immediateCount_quarter3 f2 f3)
  rwa [decodeLatches_quarter3 f2 f3 h] at this

/-! ## Three latched bytes -/

/-- The immediates an opcode does not take are not read. -/
theorem decodeLatches_b3 (b2 b3 : Byte) : ∀ op : Byte, immediateCount op ≤ 1 →
    decodeLatches op b2 b3 = decodeLatches op b2 0 := by
  intro op
  unfold immediateCount decodeLatches decodeQuarter0
  generalize (field1 op).toNat = f1, (field3 op).toNat = f3
  rcases f1 with _ | _ | _ | f1 <;> intro h <;> try rfl
  rcases f3 with _ | _ | _ | _ | _ | _ | _ | f3 <;> try rfl
  · generalize (field2 op).toNat = f2 at *
    rcases f2 with _ | _ | _ | _ | f2 <;> first | rfl | simp at h
  · cases ho : isOdd (field2 op) <;> simp_all

theorem decodeLatches_b2 (b2 b3 : Byte) : ∀ op : Byte, immediateCount op = 0 →
    decodeLatches op b2 b3 = decodeLatches op 0 0 := by
  intro op h
  rw [decodeLatches_b3 b2 b3 op (by omega)]
  revert h
  unfold immediateCount decodeLatches decodeQuarter0
  generalize (field1 op).toNat = f1, (field3 op).toNat = f3
  rcases f1 with _ | _ | _ | f1 <;> intro h <;> try rfl
  rcases f3 with _ | _ | _ | _ | _ | _ | _ | f3 <;> try rfl
  · generalize (field2 op).toNat = f2 at *
    rcases f2 with _ | _ | _ | _ | f2 <;> first | rfl | simp at h
  · cases ho : isOdd (field2 op) <;> simp_all
  · simp at h

/-- Three bytes always decode, to what the latches decode to. -/
theorem decode_latches (ir b2 b3 : Byte) :
    ∃ rest, decode [ir, b2, b3] = .ok (decodeLatches ir b2 b3, rest) := by
  have hle := immediateCount_le ir
  obtain h | h | h : immediateCount ir = 0 ∨ immediateCount ir = 1 ∨ immediateCount ir = 2 := by omega
  · exact ⟨_, (decode_noImmediate ir _ h).trans (by rw [decodeLatches_b2 b2 b3 ir h])⟩
  · refine ⟨[b3], ?_⟩
    simp only [decode, h, decodeLatches_b3 b2 b3 ir (by omega)]
    rfl
  · exact ⟨[], by simp only [decode, h]⟩

/-! ## The latches decode to a well-formed instruction with that encoding -/

theorem bitVec3_cases : ∀ x : BitVec 3,
    x = 0#3 ∨ x = 1#3 ∨ x = 2#3 ∨ x = 3#3 ∨ x = 4#3 ∨ x = 5#3 ∨ x = 6#3 ∨ x = 7#3 := by decide

theorem bitVec2_cases : ∀ x : BitVec 2, x = 0#2 ∨ x = 1#2 ∨ x = 2#2 ∨ x = 3#2 := by decide

/-- The four quarters of the decoder, by the fields of the opcode. -/
theorem decodeLatches_field1_0 (f2 f3 : BitVec 3) (b2 b3 : Byte) :
    decodeLatches (opcodeOf 0#2 f2 f3) b2 b3 = decodeQuarter0 f2 f3 b2 b3 := by
  rw [decodeLatches, field1_opcodeOf, field2_opcodeOf, field3_opcodeOf]; rfl

theorem decodeLatches_field1_1 (f2 f3 : BitVec 3) (b2 b3 : Byte) :
    decodeLatches (opcodeOf 1#2 f2 f3) b2 b3 = .move8 (.ofCode f2) (.ofCode f3) := by
  rw [decodeLatches, field1_opcodeOf, field2_opcodeOf, field3_opcodeOf]; rfl

theorem decodeLatches_field1_2 (f2 f3 : BitVec 3) (b2 b3 : Byte) :
    decodeLatches (opcodeOf 2#2 f2 f3) b2 b3 = .alu (.ofCode f2) (.ofCode f3) := by
  rw [decodeLatches, field1_opcodeOf, field2_opcodeOf, field3_opcodeOf]; rfl

theorem decodeLatches_field1_3 (f2 f3 : BitVec 3) (b2 b3 : Byte) :
    decodeLatches (opcodeOf 3#2 f2 f3) b2 b3 = decodeQuarter3 f2 f3 := by
  rw [decodeLatches, field1_opcodeOf, field2_opcodeOf, field3_opcodeOf]; rfl

/-- A property of every opcode byte is a property of every triple of fields. -/
theorem forall_opcode {P : Byte → Prop} (h : ∀ f1 f2 f3, P (opcodeOf f1 f2 f3)) (op : Byte) : P op :=
  opcodeOf_fields op ▸ h _ _ _

/-- The instruction three latches decode to is well formed, and its bytes are the opcode and the immediates it takes. -/
theorem decodeLatches_encode (op b2 b3 : Byte) :
    (decodeLatches op b2 b3).wellFormed = true ∧
      (decodeLatches op b2 b3).encode = op :: [b2, b3].take (immediateCount op) := by
  revert op
  refine forall_opcode fun f1 f2 f3 => ?_
  obtain rfl | rfl | rfl | rfl := bitVec2_cases f1
  · rw [decodeLatches_field1_0]
    obtain rfl | rfl | rfl | rfl | rfl | rfl | rfl | rfl := bitVec3_cases f3
    · obtain rfl | rfl | rfl | rfl | rfl | rfl | rfl | rfl := bitVec3_cases f2
      case inr.inl => exact ⟨rfl, by show [_, loByte (wordOf b3 b2), hiByte (wordOf b3 b2)] = _; simp; rfl⟩
      all_goals exact ⟨rfl, rfl⟩
    · obtain rfl | rfl | rfl | rfl | rfl | rfl | rfl | rfl := bitVec3_cases f2
      case inr.inl | inr.inr.inr.inl | inr.inr.inr.inr.inr.inl | inr.inr.inr.inr.inr.inr.inr => exact ⟨rfl, rfl⟩
      all_goals exact ⟨rfl, by show [_, loByte (wordOf b3 b2), hiByte (wordOf b3 b2)] = _; simp; rfl⟩
    all_goals
      obtain rfl | rfl | rfl | rfl | rfl | rfl | rfl | rfl := bitVec3_cases f2 <;> exact ⟨rfl, rfl⟩
  · rw [decodeLatches_field1_1, immediateCount_field1_1, List.take_zero]
    revert f2 f3
    exact by decide
  · rw [decodeLatches_field1_2, immediateCount_field1_2, List.take_zero]
    revert f2 f3
    exact by decide
  · rw [decodeLatches_field1_3, immediateCount_quarter3, List.take_zero]
    revert f2 f3
    exact by decide

end Sys2Proof
end

