-- ==== Sys2Proof/Laws/State.lean ====
section
/-! SUPPORT. One lemma per field per update of the state: what each named update writes and that it leaves every other
field alone. -/

namespace Sys2Proof.Machine

variable (s : State)

/-! ## setBc -/

@[simp] theorem setBc_a (w : Word) : (s.setBc w).a = s.a := rfl
@[simp] theorem setBc_b (w : Word) : (s.setBc w).b = hiByte w := rfl
@[simp] theorem setBc_c (w : Word) : (s.setBc w).c = loByte w := rfl
@[simp] theorem setBc_d (w : Word) : (s.setBc w).d = s.d := rfl
@[simp] theorem setBc_e (w : Word) : (s.setBc w).e = s.e := rfl
@[simp] theorem setBc_h (w : Word) : (s.setBc w).h = s.h := rfl
@[simp] theorem setBc_l (w : Word) : (s.setBc w).l = s.l := rfl
@[simp] theorem setBc_flags (w : Word) : (s.setBc w).flags = s.flags := rfl
@[simp] theorem setBc_sp (w : Word) : (s.setBc w).sp = s.sp := rfl
@[simp] theorem setBc_pc (w : Word) : (s.setBc w).pc = s.pc := rfl
@[simp] theorem setBc_ir (w : Word) : (s.setBc w).ir = s.ir := rfl
@[simp] theorem setBc_b2 (w : Word) : (s.setBc w).b2 = s.b2 := rfl
@[simp] theorem setBc_b3 (w : Word) : (s.setBc w).b3 = s.b3 := rfl
@[simp] theorem setBc_mem (w : Word) : (s.setBc w).mem = s.mem := rfl
@[simp] theorem setBc_status (w : Word) : (s.setBc w).status = s.status := rfl
@[simp] theorem setBc_phase (w : Word) : (s.setBc w).phase = s.phase := rfl
@[simp] theorem setBc_romLoaded (w : Word) : (s.setBc w).romLoaded = s.romLoaded := rfl
@[simp] theorem setBc_config (w : Word) : (s.setBc w).config = s.config := rfl

/-! ## setDe -/

@[simp] theorem setDe_a (w : Word) : (s.setDe w).a = s.a := rfl
@[simp] theorem setDe_b (w : Word) : (s.setDe w).b = s.b := rfl
@[simp] theorem setDe_c (w : Word) : (s.setDe w).c = s.c := rfl
@[simp] theorem setDe_d (w : Word) : (s.setDe w).d = hiByte w := rfl
@[simp] theorem setDe_e (w : Word) : (s.setDe w).e = loByte w := rfl
@[simp] theorem setDe_h (w : Word) : (s.setDe w).h = s.h := rfl
@[simp] theorem setDe_l (w : Word) : (s.setDe w).l = s.l := rfl
@[simp] theorem setDe_flags (w : Word) : (s.setDe w).flags = s.flags := rfl
@[simp] theorem setDe_sp (w : Word) : (s.setDe w).sp = s.sp := rfl
@[simp] theorem setDe_pc (w : Word) : (s.setDe w).pc = s.pc := rfl
@[simp] theorem setDe_ir (w : Word) : (s.setDe w).ir = s.ir := rfl
@[simp] theorem setDe_b2 (w : Word) : (s.setDe w).b2 = s.b2 := rfl
@[simp] theorem setDe_b3 (w : Word) : (s.setDe w).b3 = s.b3 := rfl
@[simp] theorem setDe_mem (w : Word) : (s.setDe w).mem = s.mem := rfl
@[simp] theorem setDe_status (w : Word) : (s.setDe w).status = s.status := rfl
@[simp] theorem setDe_phase (w : Word) : (s.setDe w).phase = s.phase := rfl
@[simp] theorem setDe_romLoaded (w : Word) : (s.setDe w).romLoaded = s.romLoaded := rfl
@[simp] theorem setDe_config (w : Word) : (s.setDe w).config = s.config := rfl

/-! ## setHl -/

@[simp] theorem setHl_a (w : Word) : (s.setHl w).a = s.a := rfl
@[simp] theorem setHl_b (w : Word) : (s.setHl w).b = s.b := rfl
@[simp] theorem setHl_c (w : Word) : (s.setHl w).c = s.c := rfl
@[simp] theorem setHl_d (w : Word) : (s.setHl w).d = s.d := rfl
@[simp] theorem setHl_e (w : Word) : (s.setHl w).e = s.e := rfl
@[simp] theorem setHl_h (w : Word) : (s.setHl w).h = hiByte w := rfl
@[simp] theorem setHl_l (w : Word) : (s.setHl w).l = loByte w := rfl
@[simp] theorem setHl_flags (w : Word) : (s.setHl w).flags = s.flags := rfl
@[simp] theorem setHl_sp (w : Word) : (s.setHl w).sp = s.sp := rfl
@[simp] theorem setHl_pc (w : Word) : (s.setHl w).pc = s.pc := rfl
@[simp] theorem setHl_ir (w : Word) : (s.setHl w).ir = s.ir := rfl
@[simp] theorem setHl_b2 (w : Word) : (s.setHl w).b2 = s.b2 := rfl
@[simp] theorem setHl_b3 (w : Word) : (s.setHl w).b3 = s.b3 := rfl
@[simp] theorem setHl_mem (w : Word) : (s.setHl w).mem = s.mem := rfl
@[simp] theorem setHl_status (w : Word) : (s.setHl w).status = s.status := rfl
@[simp] theorem setHl_phase (w : Word) : (s.setHl w).phase = s.phase := rfl
@[simp] theorem setHl_romLoaded (w : Word) : (s.setHl w).romLoaded = s.romLoaded := rfl
@[simp] theorem setHl_config (w : Word) : (s.setHl w).config = s.config := rfl

/-! ## setSp -/

@[simp] theorem setSp_a (w : Word) : (s.setSp w).a = s.a := rfl
@[simp] theorem setSp_b (w : Word) : (s.setSp w).b = s.b := rfl
@[simp] theorem setSp_c (w : Word) : (s.setSp w).c = s.c := rfl
@[simp] theorem setSp_d (w : Word) : (s.setSp w).d = s.d := rfl
@[simp] theorem setSp_e (w : Word) : (s.setSp w).e = s.e := rfl
@[simp] theorem setSp_h (w : Word) : (s.setSp w).h = s.h := rfl
@[simp] theorem setSp_l (w : Word) : (s.setSp w).l = s.l := rfl
@[simp] theorem setSp_flags (w : Word) : (s.setSp w).flags = s.flags := rfl
@[simp] theorem setSp_sp (w : Word) : (s.setSp w).sp = w := rfl
@[simp] theorem setSp_pc (w : Word) : (s.setSp w).pc = s.pc := rfl
@[simp] theorem setSp_ir (w : Word) : (s.setSp w).ir = s.ir := rfl
@[simp] theorem setSp_b2 (w : Word) : (s.setSp w).b2 = s.b2 := rfl
@[simp] theorem setSp_b3 (w : Word) : (s.setSp w).b3 = s.b3 := rfl
@[simp] theorem setSp_mem (w : Word) : (s.setSp w).mem = s.mem := rfl
@[simp] theorem setSp_status (w : Word) : (s.setSp w).status = s.status := rfl
@[simp] theorem setSp_phase (w : Word) : (s.setSp w).phase = s.phase := rfl
@[simp] theorem setSp_romLoaded (w : Word) : (s.setSp w).romLoaded = s.romLoaded := rfl
@[simp] theorem setSp_config (w : Word) : (s.setSp w).config = s.config := rfl

/-! ## setPc -/

@[simp] theorem setPc_a (w : Word) : (s.setPc w).a = s.a := rfl
@[simp] theorem setPc_b (w : Word) : (s.setPc w).b = s.b := rfl
@[simp] theorem setPc_c (w : Word) : (s.setPc w).c = s.c := rfl
@[simp] theorem setPc_d (w : Word) : (s.setPc w).d = s.d := rfl
@[simp] theorem setPc_e (w : Word) : (s.setPc w).e = s.e := rfl
@[simp] theorem setPc_h (w : Word) : (s.setPc w).h = s.h := rfl
@[simp] theorem setPc_l (w : Word) : (s.setPc w).l = s.l := rfl
@[simp] theorem setPc_flags (w : Word) : (s.setPc w).flags = s.flags := rfl
@[simp] theorem setPc_sp (w : Word) : (s.setPc w).sp = s.sp := rfl
@[simp] theorem setPc_pc (w : Word) : (s.setPc w).pc = w := rfl
@[simp] theorem setPc_ir (w : Word) : (s.setPc w).ir = s.ir := rfl
@[simp] theorem setPc_b2 (w : Word) : (s.setPc w).b2 = s.b2 := rfl
@[simp] theorem setPc_b3 (w : Word) : (s.setPc w).b3 = s.b3 := rfl
@[simp] theorem setPc_mem (w : Word) : (s.setPc w).mem = s.mem := rfl
@[simp] theorem setPc_status (w : Word) : (s.setPc w).status = s.status := rfl
@[simp] theorem setPc_phase (w : Word) : (s.setPc w).phase = s.phase := rfl
@[simp] theorem setPc_romLoaded (w : Word) : (s.setPc w).romLoaded = s.romLoaded := rfl
@[simp] theorem setPc_config (w : Word) : (s.setPc w).config = s.config := rfl

/-! ## skipImmediates -/

@[simp] theorem skipImmediates_a (k : Word) : (s.skipImmediates k).a = s.a := rfl
@[simp] theorem skipImmediates_b (k : Word) : (s.skipImmediates k).b = s.b := rfl
@[simp] theorem skipImmediates_c (k : Word) : (s.skipImmediates k).c = s.c := rfl
@[simp] theorem skipImmediates_d (k : Word) : (s.skipImmediates k).d = s.d := rfl
@[simp] theorem skipImmediates_e (k : Word) : (s.skipImmediates k).e = s.e := rfl
@[simp] theorem skipImmediates_h (k : Word) : (s.skipImmediates k).h = s.h := rfl
@[simp] theorem skipImmediates_l (k : Word) : (s.skipImmediates k).l = s.l := rfl
@[simp] theorem skipImmediates_flags (k : Word) : (s.skipImmediates k).flags = s.flags := rfl
@[simp] theorem skipImmediates_sp (k : Word) : (s.skipImmediates k).sp = s.sp := rfl
@[simp] theorem skipImmediates_pc (k : Word) : (s.skipImmediates k).pc = s.pc + k := rfl
@[simp] theorem skipImmediates_ir (k : Word) : (s.skipImmediates k).ir = s.ir := rfl
@[simp] theorem skipImmediates_b2 (k : Word) : (s.skipImmediates k).b2 = s.b2 := rfl
@[simp] theorem skipImmediates_b3 (k : Word) : (s.skipImmediates k).b3 = s.b3 := rfl
@[simp] theorem skipImmediates_mem (k : Word) : (s.skipImmediates k).mem = s.mem := rfl
@[simp] theorem skipImmediates_status (k : Word) : (s.skipImmediates k).status = s.status := rfl
@[simp] theorem skipImmediates_phase (k : Word) : (s.skipImmediates k).phase = s.phase := rfl
@[simp] theorem skipImmediates_romLoaded (k : Word) : (s.skipImmediates k).romLoaded = s.romLoaded := rfl
@[simp] theorem skipImmediates_config (k : Word) : (s.skipImmediates k).config = s.config := rfl

/-! ## setFlags -/

@[simp] theorem setFlags_a (f : Flags) : (s.setFlags f).a = s.a := rfl
@[simp] theorem setFlags_b (f : Flags) : (s.setFlags f).b = s.b := rfl
@[simp] theorem setFlags_c (f : Flags) : (s.setFlags f).c = s.c := rfl
@[simp] theorem setFlags_d (f : Flags) : (s.setFlags f).d = s.d := rfl
@[simp] theorem setFlags_e (f : Flags) : (s.setFlags f).e = s.e := rfl
@[simp] theorem setFlags_h (f : Flags) : (s.setFlags f).h = s.h := rfl
@[simp] theorem setFlags_l (f : Flags) : (s.setFlags f).l = s.l := rfl
@[simp] theorem setFlags_flags (f : Flags) : (s.setFlags f).flags = f := rfl
@[simp] theorem setFlags_sp (f : Flags) : (s.setFlags f).sp = s.sp := rfl
@[simp] theorem setFlags_pc (f : Flags) : (s.setFlags f).pc = s.pc := rfl
@[simp] theorem setFlags_ir (f : Flags) : (s.setFlags f).ir = s.ir := rfl
@[simp] theorem setFlags_b2 (f : Flags) : (s.setFlags f).b2 = s.b2 := rfl
@[simp] theorem setFlags_b3 (f : Flags) : (s.setFlags f).b3 = s.b3 := rfl
@[simp] theorem setFlags_mem (f : Flags) : (s.setFlags f).mem = s.mem := rfl
@[simp] theorem setFlags_status (f : Flags) : (s.setFlags f).status = s.status := rfl
@[simp] theorem setFlags_phase (f : Flags) : (s.setFlags f).phase = s.phase := rfl
@[simp] theorem setFlags_romLoaded (f : Flags) : (s.setFlags f).romLoaded = s.romLoaded := rfl
@[simp] theorem setFlags_config (f : Flags) : (s.setFlags f).config = s.config := rfl

/-! ## setPhase -/

@[simp] theorem setPhase_a (p : Phase) : (s.setPhase p).a = s.a := rfl
@[simp] theorem setPhase_b (p : Phase) : (s.setPhase p).b = s.b := rfl
@[simp] theorem setPhase_c (p : Phase) : (s.setPhase p).c = s.c := rfl
@[simp] theorem setPhase_d (p : Phase) : (s.setPhase p).d = s.d := rfl
@[simp] theorem setPhase_e (p : Phase) : (s.setPhase p).e = s.e := rfl
@[simp] theorem setPhase_h (p : Phase) : (s.setPhase p).h = s.h := rfl
@[simp] theorem setPhase_l (p : Phase) : (s.setPhase p).l = s.l := rfl
@[simp] theorem setPhase_flags (p : Phase) : (s.setPhase p).flags = s.flags := rfl
@[simp] theorem setPhase_sp (p : Phase) : (s.setPhase p).sp = s.sp := rfl
@[simp] theorem setPhase_pc (p : Phase) : (s.setPhase p).pc = s.pc := rfl
@[simp] theorem setPhase_ir (p : Phase) : (s.setPhase p).ir = s.ir := rfl
@[simp] theorem setPhase_b2 (p : Phase) : (s.setPhase p).b2 = s.b2 := rfl
@[simp] theorem setPhase_b3 (p : Phase) : (s.setPhase p).b3 = s.b3 := rfl
@[simp] theorem setPhase_mem (p : Phase) : (s.setPhase p).mem = s.mem := rfl
@[simp] theorem setPhase_status (p : Phase) : (s.setPhase p).status = s.status := rfl
@[simp] theorem setPhase_phase (p : Phase) : (s.setPhase p).phase = p := rfl
@[simp] theorem setPhase_romLoaded (p : Phase) : (s.setPhase p).romLoaded = s.romLoaded := rfl
@[simp] theorem setPhase_config (p : Phase) : (s.setPhase p).config = s.config := rfl

/-! ## raiseFatal -/

@[simp] theorem raiseFatal_a (k : FatalKind) (op : Byte) : (raiseFatal k op s).a = s.a := rfl
@[simp] theorem raiseFatal_b (k : FatalKind) (op : Byte) : (raiseFatal k op s).b = s.b := rfl
@[simp] theorem raiseFatal_c (k : FatalKind) (op : Byte) : (raiseFatal k op s).c = s.c := rfl
@[simp] theorem raiseFatal_d (k : FatalKind) (op : Byte) : (raiseFatal k op s).d = s.d := rfl
@[simp] theorem raiseFatal_e (k : FatalKind) (op : Byte) : (raiseFatal k op s).e = s.e := rfl
@[simp] theorem raiseFatal_h (k : FatalKind) (op : Byte) : (raiseFatal k op s).h = s.h := rfl
@[simp] theorem raiseFatal_l (k : FatalKind) (op : Byte) : (raiseFatal k op s).l = s.l := rfl
@[simp] theorem raiseFatal_flags (k : FatalKind) (op : Byte) : (raiseFatal k op s).flags = s.flags := rfl
@[simp] theorem raiseFatal_sp (k : FatalKind) (op : Byte) : (raiseFatal k op s).sp = s.sp := rfl
@[simp] theorem raiseFatal_pc (k : FatalKind) (op : Byte) : (raiseFatal k op s).pc = s.pc := rfl
@[simp] theorem raiseFatal_ir (k : FatalKind) (op : Byte) : (raiseFatal k op s).ir = s.ir := rfl
@[simp] theorem raiseFatal_b2 (k : FatalKind) (op : Byte) : (raiseFatal k op s).b2 = s.b2 := rfl
@[simp] theorem raiseFatal_b3 (k : FatalKind) (op : Byte) : (raiseFatal k op s).b3 = s.b3 := rfl
@[simp] theorem raiseFatal_mem (k : FatalKind) (op : Byte) : (raiseFatal k op s).mem = s.mem := rfl
@[simp] theorem raiseFatal_status (k : FatalKind) (op : Byte) : (raiseFatal k op s).status = .faulted k op := rfl
@[simp] theorem raiseFatal_phase (k : FatalKind) (op : Byte) : (raiseFatal k op s).phase = .awaitFetch := rfl
@[simp] theorem raiseFatal_romLoaded (k : FatalKind) (op : Byte) : (raiseFatal k op s).romLoaded = s.romLoaded := rfl
@[simp] theorem raiseFatal_config (k : FatalKind) (op : Byte) : (raiseFatal k op s).config = s.config := rfl

/-! ## fetch -/

@[simp] theorem fetch_a : (s.fetch).a = s.a := rfl
@[simp] theorem fetch_b : (s.fetch).b = s.b := rfl
@[simp] theorem fetch_c : (s.fetch).c = s.c := rfl
@[simp] theorem fetch_d : (s.fetch).d = s.d := rfl
@[simp] theorem fetch_e : (s.fetch).e = s.e := rfl
@[simp] theorem fetch_h : (s.fetch).h = s.h := rfl
@[simp] theorem fetch_l : (s.fetch).l = s.l := rfl
@[simp] theorem fetch_flags : (s.fetch).flags = s.flags := rfl
@[simp] theorem fetch_sp : (s.fetch).sp = s.sp := rfl
@[simp] theorem fetch_pc : (s.fetch).pc = s.pc + 1#16 := rfl
@[simp] theorem fetch_ir : (s.fetch).ir = s.memRead s.pc := rfl
@[simp] theorem fetch_b2 : (s.fetch).b2 = s.memRead (s.pc + 1#16) := rfl
@[simp] theorem fetch_b3 : (s.fetch).b3 = s.memRead (s.pc + 2#16) := rfl
@[simp] theorem fetch_mem : (s.fetch).mem = s.mem := rfl
@[simp] theorem fetch_status : (s.fetch).status = s.status := rfl
@[simp] theorem fetch_phase : (s.fetch).phase = .awaitExecute := rfl
@[simp] theorem fetch_romLoaded : (s.fetch).romLoaded = s.romLoaded := rfl
@[simp] theorem fetch_config : (s.fetch).config = s.config := rfl

/-! ## setReg -/

@[simp] theorem setReg_flags (r : Reg8) (v : Byte) : (s.setReg r v).flags = s.flags := by cases r <;> rfl
@[simp] theorem setReg_sp (r : Reg8) (v : Byte) : (s.setReg r v).sp = s.sp := by cases r <;> rfl
@[simp] theorem setReg_pc (r : Reg8) (v : Byte) : (s.setReg r v).pc = s.pc := by cases r <;> rfl
@[simp] theorem setReg_ir (r : Reg8) (v : Byte) : (s.setReg r v).ir = s.ir := by cases r <;> rfl
@[simp] theorem setReg_b2 (r : Reg8) (v : Byte) : (s.setReg r v).b2 = s.b2 := by cases r <;> rfl
@[simp] theorem setReg_b3 (r : Reg8) (v : Byte) : (s.setReg r v).b3 = s.b3 := by cases r <;> rfl
@[simp] theorem setReg_mem (r : Reg8) (v : Byte) : (s.setReg r v).mem = s.mem := by cases r <;> rfl
@[simp] theorem setReg_status (r : Reg8) (v : Byte) : (s.setReg r v).status = s.status := by cases r <;> rfl
@[simp] theorem setReg_phase (r : Reg8) (v : Byte) : (s.setReg r v).phase = s.phase := by cases r <;> rfl
@[simp] theorem setReg_romLoaded (r : Reg8) (v : Byte) : (s.setReg r v).romLoaded = s.romLoaded := by cases r <;> rfl
@[simp] theorem setReg_config (r : Reg8) (v : Byte) : (s.setReg r v).config = s.config := by cases r <;> rfl

@[simp] theorem reg_setReg (r q : Reg8) (v : Byte) : (s.setReg r v).reg q = if q = r then v else s.reg q := by
  cases r <;> cases q <;> rfl

@[simp] theorem reg_b : s.reg .b = s.b := rfl
@[simp] theorem reg_c : s.reg .c = s.c := rfl
@[simp] theorem reg_d : s.reg .d = s.d := rfl
@[simp] theorem reg_e : s.reg .e = s.e := rfl
@[simp] theorem reg_h : s.reg .h = s.h := rfl
@[simp] theorem reg_l : s.reg .l = s.l := rfl
@[simp] theorem reg_a : s.reg .a = s.a := rfl

/-! ## memWrite -/

@[simp] theorem memWrite_a (x : Word) (v : Byte) : (s.memWrite x v).a = s.a := by unfold State.memWrite; split <;> rfl
@[simp] theorem memWrite_b (x : Word) (v : Byte) : (s.memWrite x v).b = s.b := by unfold State.memWrite; split <;> rfl
@[simp] theorem memWrite_c (x : Word) (v : Byte) : (s.memWrite x v).c = s.c := by unfold State.memWrite; split <;> rfl
@[simp] theorem memWrite_d (x : Word) (v : Byte) : (s.memWrite x v).d = s.d := by unfold State.memWrite; split <;> rfl
@[simp] theorem memWrite_e (x : Word) (v : Byte) : (s.memWrite x v).e = s.e := by unfold State.memWrite; split <;> rfl
@[simp] theorem memWrite_h (x : Word) (v : Byte) : (s.memWrite x v).h = s.h := by unfold State.memWrite; split <;> rfl
@[simp] theorem memWrite_l (x : Word) (v : Byte) : (s.memWrite x v).l = s.l := by unfold State.memWrite; split <;> rfl
@[simp] theorem memWrite_flags (x : Word) (v : Byte) : (s.memWrite x v).flags = s.flags := by unfold State.memWrite; split <;> rfl
@[simp] theorem memWrite_sp (x : Word) (v : Byte) : (s.memWrite x v).sp = s.sp := by unfold State.memWrite; split <;> rfl
@[simp] theorem memWrite_pc (x : Word) (v : Byte) : (s.memWrite x v).pc = s.pc := by unfold State.memWrite; split <;> rfl
@[simp] theorem memWrite_ir (x : Word) (v : Byte) : (s.memWrite x v).ir = s.ir := by unfold State.memWrite; split <;> rfl
@[simp] theorem memWrite_b2 (x : Word) (v : Byte) : (s.memWrite x v).b2 = s.b2 := by unfold State.memWrite; split <;> rfl
@[simp] theorem memWrite_b3 (x : Word) (v : Byte) : (s.memWrite x v).b3 = s.b3 := by unfold State.memWrite; split <;> rfl
@[simp] theorem memWrite_status (x : Word) (v : Byte) : (s.memWrite x v).status = s.status := by unfold State.memWrite; split <;> rfl
@[simp] theorem memWrite_phase (x : Word) (v : Byte) : (s.memWrite x v).phase = s.phase := by unfold State.memWrite; split <;> rfl
@[simp] theorem memWrite_romLoaded (x : Word) (v : Byte) : (s.memWrite x v).romLoaded = s.romLoaded := by unfold State.memWrite; split <;> rfl
@[simp] theorem memWrite_config (x : Word) (v : Byte) : (s.memWrite x v).config = s.config := by unfold State.memWrite; split <;> rfl

@[simp] theorem reg_memWrite (x : Word) (v : Byte) (r : Reg8) : (s.memWrite x v).reg r = s.reg r := by
  cases r <;> simp

/-! ## The register view of the other updates -/

@[simp] theorem reg_setBc (w : Word) (r : Reg8) : (s.setBc w).reg r = if r = .b then hiByte w else if r = .c then loByte w else s.reg r := by
  cases r <;> rfl

@[simp] theorem reg_setDe (w : Word) (r : Reg8) : (s.setDe w).reg r = if r = .d then hiByte w else if r = .e then loByte w else s.reg r := by
  cases r <;> rfl

@[simp] theorem reg_setHl (w : Word) (r : Reg8) : (s.setHl w).reg r = if r = .h then hiByte w else if r = .l then loByte w else s.reg r := by
  cases r <;> rfl

@[simp] theorem reg_setSp (w : Word) (r : Reg8) : (s.setSp w).reg r = s.reg r := by cases r <;> rfl

@[simp] theorem reg_setPc (w : Word) (r : Reg8) : (s.setPc w).reg r = s.reg r := by cases r <;> rfl

@[simp] theorem reg_skipImmediates (k : Word) (r : Reg8) : (s.skipImmediates k).reg r = s.reg r := by cases r <;> rfl

@[simp] theorem reg_setFlags (f : Flags) (r : Reg8) : (s.setFlags f).reg r = s.reg r := by cases r <;> rfl

@[simp] theorem reg_setPhase (p : Phase) (r : Reg8) : (s.setPhase p).reg r = s.reg r := by cases r <;> rfl

@[simp] theorem reg_raiseFatal (k : FatalKind) (op : Byte) (r : Reg8) : (raiseFatal k op s).reg r = s.reg r := by cases r <;> rfl

@[simp] theorem reg_fetch (r : Reg8) : (s.fetch).reg r = s.reg r := by cases r <;> rfl

end Sys2Proof.Machine
end

