-- ==== Sys2Proof/Laws/Memory.lean ====
section
/-! SUPPORT. What the list of stored bytes and the bus do: read after write (R56), the stub and gap regions (R45, R46), and
that every memory operation keeps the canonical form. -/

namespace Sys2Proof.Machine

/-! ## The list of stored bytes -/

@[simp] theorem byteAt_nil (x : Nat) : Memory.byteAt [] x = Memory.unlisted := rfl

/-- A memory whose addresses all lie above `x` does not list `x`. -/
theorem byteAt_of_lt (m : Memory) (x : Nat) (h : ∀ p ∈ m, x < p.1) : Memory.byteAt m x = Memory.unlisted := by
  induction m with
  | nil => rfl
  | cons p rest ih =>
    have hp := h p (by simp)
    rw [Memory.byteAt, if_neg (by omega)]
    exact ih fun q hq => h q (by simp [hq])

/-- The addresses of a memory after `putByte` are those before it and the one put. -/
theorem mem_putByte (m : Memory) (x : Nat) (v : Byte) (p : Host.Cell) (h : p ∈ Memory.putByte m x v) :
    p ∈ m ∨ (p = (x, v) ∧ v ≠ Memory.unlisted) := by
  induction m with
  | nil =>
    rw [Memory.putByte] at h
    split at h <;> simp_all
  | cons q rest ih =>
    obtain ⟨k, w⟩ := q
    rw [Memory.putByte] at h
    split_ifs at h with h1 h2 h3 h4
    · exact .inl h
    · rcases List.mem_cons.mp h with rfl | h
      · exact .inr ⟨rfl, h2⟩
      · exact .inl h
    · exact .inl (List.mem_cons_of_mem _ h)
    · rcases List.mem_cons.mp h with rfl | h
      · exact .inr ⟨rfl, h4⟩
      · exact .inl (List.mem_cons_of_mem _ h)
    · rcases List.mem_cons.mp h with rfl | h
      · exact .inl (by simp)
      · exact (ih h).imp (List.mem_cons_of_mem _) id

/-- `putByte` keeps the addresses rising. -/
theorem putByte_rising (m : Memory) (x : Nat) (v : Byte) (h : m.Pairwise (fun p q => p.1 < q.1)) :
    (Memory.putByte m x v).Pairwise (fun p q => p.1 < q.1) := by
  induction m with
  | nil =>
    rw [Memory.putByte]
    split <;> simp
  | cons q rest ih =>
    obtain ⟨k, w⟩ := q
    have hrest := (List.pairwise_cons.mp h).2
    have hk := (List.pairwise_cons.mp h).1
    rw [Memory.putByte]
    split_ifs with h1 h2 h3 h4
    · exact h
    · refine List.pairwise_cons.mpr ⟨fun p hp => ?_, h⟩
      rcases List.mem_cons.mp hp with rfl | hp
      · exact h1
      · exact Nat.lt_trans h1 (hk p hp)
    · exact hrest
    · subst h3
      exact List.pairwise_cons.mpr ⟨hk, hrest⟩
    · refine List.pairwise_cons.mpr ⟨fun p hp => ?_, ih hrest⟩
      rcases mem_putByte rest x v p hp with hp | ⟨rfl, -⟩
      · exact hk p hp
      · show k < x
        omega

/-- Reading after `putByte`, at the address put and at every other address. -/
theorem byteAt_putByte (m : Memory) (x y : Nat) (v : Byte) (h : m.Pairwise (fun p q => p.1 < q.1)) :
    Memory.byteAt (Memory.putByte m x v) y = if y = x then v else Memory.byteAt m y := by
  induction m generalizing y with
  | nil =>
    rw [Memory.putByte]
    split_ifs with h1 h2 h2 <;> simp_all [Memory.byteAt, eq_comm]
  | cons q rest ih =>
    obtain ⟨k, w⟩ := q
    have hrest := (List.pairwise_cons.mp h).2
    have hk := (List.pairwise_cons.mp h).1
    have ih' := fun z => ih z hrest
    by_cases hy : y = x
    · rw [if_pos hy, Memory.putByte, hy]
      split_ifs with h1 h2 h2 h3
      · rw [h2]
        refine byteAt_of_lt _ _ fun p hp => ?_
        rcases List.mem_cons.mp hp with rfl | hp
        · exact h1
        · exact Nat.lt_trans h1 (hk p hp)
      · simp [Memory.byteAt]
      · rw [h3, h2]
        exact byteAt_of_lt rest k hk
      · simp [Memory.byteAt]
      · rw [Memory.byteAt, if_neg (by omega), ih' x, if_pos rfl]
    · rw [if_neg hy, Memory.putByte]
      split_ifs with h1 h2 h2 h3
      · rfl
      · rw [Memory.byteAt, if_neg (by omega)]
      · rw [Memory.byteAt, if_neg (by omega)]
      · rw [Memory.byteAt, Memory.byteAt, if_neg (by omega), if_neg (by omega)]
      · rw [Memory.byteAt, Memory.byteAt, ih' y, if_neg hy]

/-! ## The regions -/

/-- The region of an address and its range, once for all (R41). -/
theorem regionOf_cases (x : Word) :
    (regionOf x = .fixedRom ∧ 0x0000 ≤ x.toNat ∧ x.toNat ≤ 0x3FFF) ∨
    (regionOf x = .switchableRom ∧ 0x4000 ≤ x.toNat ∧ x.toNat ≤ 0x7FFF) ∨
    (regionOf x = .videoRam ∧ 0x8000 ≤ x.toNat ∧ x.toNat ≤ 0x9FFF) ∨
    (regionOf x = .externalRam ∧ 0xA000 ≤ x.toNat ∧ x.toNat ≤ 0xBFFF) ∨
    (regionOf x = .workRam0 ∧ 0xC000 ≤ x.toNat ∧ x.toNat ≤ 0xCFFF) ∨
    (regionOf x = .workRamN ∧ 0xD000 ≤ x.toNat ∧ x.toNat ≤ 0xDFFF) ∨
    (regionOf x = .gapE000 ∧ 0xE000 ≤ x.toNat ∧ x.toNat ≤ 0xFDFF) ∨
    (regionOf x = .oam ∧ 0xFE00 ≤ x.toNat ∧ x.toNat ≤ 0xFE9F) ∨
    (regionOf x = .gapFea0 ∧ 0xFEA0 ≤ x.toNat ∧ x.toNat ≤ 0xFEFF) ∨
    (regionOf x = .ioRegisters ∧ 0xFF00 ≤ x.toNat ∧ x.toNat ≤ 0xFF7F) ∨
    (regionOf x = .highRam ∧ 0xFF80 ≤ x.toNat ∧ x.toNat ≤ 0xFFFE) ∨
    (regionOf x = .interruptEnable ∧ 0xFFFF ≤ x.toNat ∧ x.toNat ≤ 0xFFFF) := by
  have hx := x.isLt
  unfold regionOf
  simp only [BitVec.le_def, BitVec.toNat_ofNat, Nat.reducePow, Nat.reduceMod]
  by_cases h0 : x.toNat ≤ 16383
  · rw [if_pos h0]
    exact .inl ⟨rfl, by omega, by omega⟩
  rw [if_neg h0]
  by_cases h1 : x.toNat ≤ 32767
  · rw [if_pos h1]
    exact .inr (.inl ⟨rfl, by omega, by omega⟩)
  rw [if_neg h1]
  by_cases h2 : x.toNat ≤ 40959
  · rw [if_pos h2]
    exact .inr (.inr (.inl ⟨rfl, by omega, by omega⟩))
  rw [if_neg h2]
  by_cases h3 : x.toNat ≤ 49151
  · rw [if_pos h3]
    exact .inr (.inr (.inr (.inl ⟨rfl, by omega, by omega⟩)))
  rw [if_neg h3]
  by_cases h4 : x.toNat ≤ 53247
  · rw [if_pos h4]
    exact .inr (.inr (.inr (.inr (.inl ⟨rfl, by omega, by omega⟩))))
  rw [if_neg h4]
  by_cases h5 : x.toNat ≤ 57343
  · rw [if_pos h5]
    exact .inr (.inr (.inr (.inr (.inr (.inl ⟨rfl, by omega, by omega⟩)))))
  rw [if_neg h5]
  by_cases h6 : x.toNat ≤ 65023
  · rw [if_pos h6]
    exact .inr (.inr (.inr (.inr (.inr (.inr (.inl ⟨rfl, by omega, by omega⟩))))))
  rw [if_neg h6]
  by_cases h7 : x.toNat ≤ 65183
  · rw [if_pos h7]
    exact .inr (.inr (.inr (.inr (.inr (.inr (.inr (.inl ⟨rfl, by omega, by omega⟩)))))))
  rw [if_neg h7]
  by_cases h8 : x.toNat ≤ 65279
  · rw [if_pos h8]
    exact .inr (.inr (.inr (.inr (.inr (.inr (.inr (.inr (.inl ⟨rfl, by omega, by omega⟩))))))))
  rw [if_neg h8]
  by_cases h9 : x.toNat ≤ 65407
  · rw [if_pos h9]
    exact .inr (.inr (.inr (.inr (.inr (.inr (.inr (.inr (.inr (.inl ⟨rfl, by omega, by omega⟩)))))))))
  rw [if_neg h9]
  by_cases h10 : x.toNat ≤ 65534
  · rw [if_pos h10]
    exact .inr (.inr (.inr (.inr (.inr (.inr (.inr (.inr (.inr (.inr (.inl ⟨rfl, by omega, by omega⟩))))))))))
  rw [if_neg h10]
  exact .inr (.inr (.inr (.inr (.inr (.inr (.inr (.inr (.inr (.inr (.inr ⟨rfl, by omega, by omega⟩))))))))))

/-- The stored addresses, as the ranges of R41. -/
theorem isStored_iff (x : Word) :
    isStored x = true ↔ x ≤ 0x7FFF#16 ∨ (0xA000#16 ≤ x ∧ x ≤ 0xDFFF#16) := by
  unfold isStored
  simp only [BitVec.le_def, BitVec.toNat_ofNat, Nat.reducePow, Nat.reduceMod]
  obtain ⟨h, _, _⟩ | ⟨h, _, _⟩ | ⟨h, _, _⟩ | ⟨h, _, _⟩ | ⟨h, _, _⟩ | ⟨h, _, _⟩ | ⟨h, _, _⟩ | ⟨h, _, _⟩ | ⟨h, _, _⟩ |
    ⟨h, _, _⟩ | ⟨h, _, _⟩ | ⟨h, _, _⟩ := regionOf_cases x <;> rw [h] <;>
    first
    | exact iff_of_true rfl (by omega)
    | exact iff_of_false (by decide) (by omega)

/-- A byte of a store is the byte of the list at its bus address. -/
theorem storeByte_eq (s : State) (st : Store) (i x : Nat) (h : st.base + i = x) :
    s.storeByte st i = Memory.byteAt s.mem x := by
  rw [State.storeByte, h]

/-- Reading outside the stored regions depends on no memory. -/
theorem memRead_of_not_stored (s : State) (x : Word) (h : isStored x = false) :
    s.memRead x = if (regionOf x).kind = .gap then s.config.gapRead else 0x00#8 := by
  unfold isStored at h
  unfold State.memRead
  cases hk : (regionOf x).kind <;> simp_all

/-- Reading in a stored region is reading the list. -/
theorem memRead_of_stored (s : State) (x : Word) (h : isStored x = true) :
    s.memRead x = Memory.byteAt s.mem x.toNat := by
  unfold isStored at h
  unfold State.memRead
  cases hk : (regionOf x).kind <;> simp_all

/-- A write outside the stored regions is discarded (R45, R46). -/
theorem memWrite_of_not_stored (s : State) (x : Word) (v : Byte) (h : isStored x = false) :
    s.memWrite x v = s := by
  unfold isStored at h
  unfold State.memWrite
  cases hk : (regionOf x).kind <;> simp_all

/-- A write in a stored region puts the byte in the list (R43). -/
theorem memWrite_of_stored (s : State) (x : Word) (v : Byte) (h : isStored x = true) :
    s.memWrite x v = { s with mem := Memory.putByte s.mem x.toNat v } := by
  unfold isStored at h
  unfold State.memWrite
  cases hk : (regionOf x).kind <;> simp_all

/-- Reads agree where memory and parameters agree. -/
theorem memRead_congr (s t : State) (hm : t.mem = s.mem) (hc : t.config = s.config) (x : Word) :
    t.memRead x = s.memRead x := by
  unfold State.memRead
  rw [hm, hc]

/-- Read after write: the one statement of what a write does to every later read (R56). -/
theorem memRead_memWrite (s : State) (h : Memory.wf s.mem) (x y : Word) (v : Byte) :
    (s.memWrite x v).memRead y = if y = x ∧ isStored x = true then v else s.memRead y := by
  by_cases hx : isStored x = true
  · rw [memWrite_of_stored s x v hx]
    by_cases hy : isStored y = true
    · rw [memRead_of_stored _ y hy, memRead_of_stored s y hy, byteAt_putByte _ _ _ _ h.1]
      simp only [hx, and_true, ← BitVec.toNat_inj]
    · have hyx : y ≠ x := fun e => hy (e ▸ hx)
      simp only [Bool.not_eq_true] at hy
      rw [if_neg fun e => hyx e.1, memRead_of_not_stored _ y hy, memRead_of_not_stored s y hy]
  · rw [memWrite_of_not_stored s x v (by simpa using hx), if_neg fun e => hx e.2]

/-! ## The canonical form -/

theorem putByte_wf (m : Memory) (h : Memory.wf m) (x : Nat) (v : Byte) (hx : x < 0x10000)
    (hs : isStored (BitVec.ofNat 16 x) = true) : Memory.wf (Memory.putByte m x v) := by
  refine ⟨putByte_rising m x v h.1, fun p hp => ?_⟩
  rcases mem_putByte m x v p hp with hp | ⟨rfl, hv⟩
  · exact h.2 p hp
  · exact ⟨hx, hs, hv⟩

/-- Every write keeps the canonical form. -/
theorem memWrite_wf (s : State) (h : Memory.wf s.mem) (x : Word) (v : Byte) : Memory.wf (s.memWrite x v).mem := by
  by_cases hx : isStored x = true
  · rw [memWrite_of_stored s x v hx]
    exact putByte_wf s.mem h x.toNat v x.isLt (by simpa using hx)
  · rw [memWrite_of_not_stored s x v (by simpa using hx)]
    exact h

/-- Loading bytes at consecutive stored addresses keeps the canonical form. -/
theorem putBytes_wf (vs : List Byte) : ∀ (m : Memory) (_ : Memory.wf m) (base : Nat)
    (_ : ∀ i < vs.length, base + i < 0x10000 ∧ isStored (BitVec.ofNat 16 (base + i)) = true),
    Memory.wf (Memory.putBytes m base vs) := by
  induction vs with
  | nil => exact fun m h _ _ => h
  | cons v vs ih =>
    intro m h base hb
    have h0 := hb 0 (by simp)
    refine ih _ (putByte_wf m h base v h0.1 h0.2) (base + 1) fun i hi => ?_
    have := hb (i + 1) (by simpa using hi)
    rwa [show base + (i + 1) = base + 1 + i by omega] at this

/-- Reading after a load: the loaded bytes at their addresses, every other address as before. -/
theorem byteAt_putBytes (vs : List Byte) : ∀ (m : Memory) (_ : m.Pairwise (fun p q => p.1 < q.1)) (base y : Nat),
    Memory.byteAt (Memory.putBytes m base vs) y =
      if h : base ≤ y ∧ y - base < vs.length then vs[y - base] else Memory.byteAt m y := by
  induction vs with
  | nil => intros; simp [Memory.putBytes]
  | cons v vs ih =>
    intro m h base y
    rw [Memory.putBytes, ih _ (putByte_rising m base v h), byteAt_putByte m base y v h]
    by_cases hy : y = base
    · subst hy
      simp
    · by_cases hlt : base + 1 ≤ y
      · obtain ⟨j, rfl⟩ : ∃ j, y = base + 1 + j := ⟨y - (base + 1), by omega⟩
        simp [show base + 1 + j - base = j + 1 by omega, show base ≤ base + 1 + j by omega, hy]
      · rw [dif_neg (by omega), dif_neg (by omega), if_neg hy]

/-- The stored addresses of the two ROM banks and of the RAM banks, as numbers. -/
theorem isStored_ofNat (n : Nat) (h : n ≤ 0x7FFF ∨ (0xA000 ≤ n ∧ n ≤ 0xDFFF)) :
    n < 0x10000 ∧ isStored (BitVec.ofNat 16 n) = true := by
  refine ⟨by omega, (isStored_iff _).mpr ?_⟩
  have : n < 65536 := by omega
  simp only [BitVec.le_def, BitVec.toNat_ofNat]
  omega

theorem reset_wf : Memory.wf State.reset.mem := by decide

theorem withImage_wf (s : State) (h : Memory.wf s.mem) (image : List Byte) : Memory.wf (s.withImage image).mem := by
  refine putBytes_wf _ _ h _ fun i hi => isStored_ofNat _ (.inl ?_)
  simp only [List.length_take, imageLength, Store.base] at hi ⊢
  omega

theorem create_wf (cfg : Config) (ram : RamInit) : Memory.wf (State.create cfg ram).mem := by
  refine putBytes_wf _ _ (putBytes_wf _ _ (putBytes_wf _ _ reset_wf _ ?_) _ ?_) _ ?_ <;>
  · intro i hi
    refine isStored_ofNat _ (.inr ?_)
    simp only [Vector.length_toList, Store.base] at hi ⊢
    omega

/-- Reading the list after a ROM load (R231). -/
theorem byteAt_withImage (s : State) (h : Memory.wf s.mem) (image : List Byte) (hl : imageLength ≤ image.length) (y : Nat) :
    Memory.byteAt (s.withImage image).mem y =
      if hy : y < imageLength then image[y]'(Nat.lt_of_lt_of_le hy hl) else Memory.byteAt s.mem y := by
  have e : (s.withImage image).mem = Memory.putBytes s.mem 0 (image.take imageLength) := rfl
  rw [e, byteAt_putBytes _ _ h.1]
  by_cases hy : y < imageLength
  · rw [dif_pos hy, dif_pos ⟨Nat.zero_le y, by rw [List.length_take]; omega⟩, List.getElem_take]
    rfl
  · rw [dif_neg hy, dif_neg (by rw [List.length_take]; omega)]

/-- Reading the list after CREATE (R230, R234). -/
theorem byteAt_create (cfg : Config) (ram : RamInit) (y : Nat) :
    Memory.byteAt (State.create cfg ram).mem y =
      if h : 0xD000 ≤ y ∧ y - 0xD000 < 4096 then ram.wram1[y - 0xD000]
      else if h : 0xC000 ≤ y ∧ y - 0xC000 < 4096 then ram.wram0[y - 0xC000]
      else if h : 0xA000 ≤ y ∧ y - 0xA000 < 8192 then ram.xram[y - 0xA000]
      else 0x00#8 := by
  have stored (base size : Nat) (h : 0xA000 ≤ base ∧ base + size ≤ 0xE000) (vs : List Byte) (hv : vs.length = size) :
      ∀ i < vs.length, base + i < 0x10000 ∧ isStored (BitVec.ofNat 16 (base + i)) = true :=
    fun i hi => isStored_ofNat _ (.inr (by omega))
  have w1 := putBytes_wf ram.xram.toList [] reset_wf Store.xram.base (stored _ 8192 (by decide) _ (by simp))
  have w2 := putBytes_wf ram.wram0.toList _ w1 Store.wram0.base (stored _ 4096 (by decide) _ (by simp))
  unfold State.create
  simp only
  rw [byteAt_putBytes _ _ w2.1, byteAt_putBytes _ _ w1.1, byteAt_putBytes _ [] List.Pairwise.nil]
  simp only [Vector.length_toList, Store.base, Vector.getElem_toList]
  rfl

/-- Two memories in canonical form that read the same everywhere are equal. -/
theorem memory_ext : ∀ (m n : Memory) (_ : Memory.wf m) (_ : Memory.wf n)
    (_ : ∀ x, Memory.byteAt m x = Memory.byteAt n x), m = n := by
  have head_ne : ∀ (p : Host.Cell) (r n : Memory), Memory.wf (p :: r) → Memory.wf n →
      (∀ x, Memory.byteAt (p :: r) x = Memory.byteAt n x) → (∀ q ∈ n, p.1 < q.1) → False := by
    intro p r n hm _ hx hlt
    have h1 := hx p.1
    rw [byteAt_of_lt n p.1 hlt] at h1
    exact (hm.2 p (by simp)).2.2 (by simpa [Memory.byteAt] using h1)
  have tail_wf : ∀ (p : Host.Cell) (r : Memory), Memory.wf (p :: r) → Memory.wf r := fun p r h =>
    ⟨(List.pairwise_cons.mp h.1).2, fun q hq => h.2 q (by simp [hq])⟩
  intro m
  induction m with
  | nil =>
    intro n hm hn hx
    cases n with
    | nil => rfl
    | cons q r => exact (head_ne q r [] hn hm (fun x => (hx x).symm) (by simp)).elim
  | cons p r ih =>
    intro n hm hn hx
    cases n with
    | nil => exact (head_ne p r [] hm hn hx (by simp)).elim
    | cons q t =>
      have hp := (List.pairwise_cons.mp hm.1).1
      have hq := (List.pairwise_cons.mp hn.1).1
      obtain ⟨k, v⟩ := p
      obtain ⟨k', v'⟩ := q
      rcases Nat.lt_trichotomy k k' with h | rfl | h
      · exact (head_ne _ _ _ hm hn hx fun z hz => by
          rcases List.mem_cons.mp hz with rfl | hz
          · exact h
          · exact Nat.lt_trans h (hq z hz)).elim
      · have hv : v = v' := by simpa [Memory.byteAt] using hx k
        subst hv
        have hrt : r = t := ih t (tail_wf _ _ hm) (tail_wf _ _ hn) fun x => by
          by_cases hk : k = x
          · subst hk
            rw [byteAt_of_lt r k hp, byteAt_of_lt t k hq]
          · simpa [Memory.byteAt, hk] using hx x
        rw [hrt]
      · exact (head_ne _ _ _ hn hm (fun x => (hx x).symm) fun z hz => by
          rcases List.mem_cons.mp hz with rfl | hz
          · exact h
          · exact Nat.lt_trans h (hp z hz)).elim

end Sys2Proof.Machine
end

