-- ==== Sys2Proof/Laws/Operands.lean ====
section
/-! SUPPORT. What the operand forms read and write, once: the register and memory view of each resolver write, and the
fields it leaves alone. -/

namespace Sys2Proof.Machine

variable (s : State)

/-! ## r8 -/

@[simp] theorem readR8_reg (r : Reg8) : s.readR8 (.reg r) = s.reg r := rfl
@[simp] theorem readR8_atHl : s.readR8 .atHl = s.memRead s.hl := rfl

@[simp] theorem writeR8_flags (d : R8) (v : Byte) : (s.writeR8 d v).flags = s.flags := by cases d <;> simp [State.writeR8]
@[simp] theorem writeR8_sp (d : R8) (v : Byte) : (s.writeR8 d v).sp = s.sp := by cases d <;> simp [State.writeR8]
@[simp] theorem writeR8_pc (d : R8) (v : Byte) : (s.writeR8 d v).pc = s.pc := by cases d <;> simp [State.writeR8]
@[simp] theorem writeR8_ir (d : R8) (v : Byte) : (s.writeR8 d v).ir = s.ir := by cases d <;> simp [State.writeR8]
@[simp] theorem writeR8_b2 (d : R8) (v : Byte) : (s.writeR8 d v).b2 = s.b2 := by cases d <;> simp [State.writeR8]
@[simp] theorem writeR8_b3 (d : R8) (v : Byte) : (s.writeR8 d v).b3 = s.b3 := by cases d <;> simp [State.writeR8]
@[simp] theorem writeR8_status (d : R8) (v : Byte) : (s.writeR8 d v).status = s.status := by cases d <;> simp [State.writeR8]
@[simp] theorem writeR8_phase (d : R8) (v : Byte) : (s.writeR8 d v).phase = s.phase := by cases d <;> simp [State.writeR8]
@[simp] theorem writeR8_romLoaded (d : R8) (v : Byte) : (s.writeR8 d v).romLoaded = s.romLoaded := by cases d <;> simp [State.writeR8]
@[simp] theorem writeR8_config (d : R8) (v : Byte) : (s.writeR8 d v).config = s.config := by cases d <;> simp [State.writeR8]

@[simp] theorem reg_writeR8 (d : R8) (v : Byte) (r : Reg8) :
    (s.writeR8 d v).reg r = if d = .reg r then v else s.reg r := by
  cases d <;> simp [State.writeR8, eq_comm]

theorem memRead_writeR8 (h : Memory.wf s.mem) (d : R8) (v : Byte) (x : Word) :
    (s.writeR8 d v).memRead x = if d = .atHl ∧ x = s.hl ∧ isStored x = true then v else s.memRead x := by
  cases d with
  | reg r => simpa [State.writeR8] using memRead_congr s _ (by simp) (by simp) x
  | atHl =>
    rw [State.writeR8, memRead_memWrite s h]
    by_cases hx : x = s.hl
    · subst hx; simp
    · simp [hx]

theorem writeR8_wf (h : Memory.wf s.mem) (d : R8) (v : Byte) : Memory.wf (s.writeR8 d v).mem := by
  cases d with
  | reg r => simpa [State.writeR8] using h
  | atHl => exact memWrite_wf s h _ _

/-! ## r16 -/

@[simp] theorem bc_setBc (w : Word) : (s.setBc w).bc = w := wordOf_hi_lo w
@[simp] theorem de_setDe (w : Word) : (s.setDe w).de = w := wordOf_hi_lo w
@[simp] theorem hl_setHl (w : Word) : (s.setHl w).hl = w := wordOf_hi_lo w
@[simp] theorem bc_setDe (w : Word) : (s.setDe w).bc = s.bc := rfl
@[simp] theorem bc_setHl (w : Word) : (s.setHl w).bc = s.bc := rfl
@[simp] theorem bc_setSp (w : Word) : (s.setSp w).bc = s.bc := rfl
@[simp] theorem bc_setPc (w : Word) : (s.setPc w).bc = s.bc := rfl
@[simp] theorem bc_setFlags (w : Flags) : (s.setFlags w).bc = s.bc := rfl
@[simp] theorem bc_setPhase (w : Phase) : (s.setPhase w).bc = s.bc := rfl
@[simp] theorem bc_memWrite (x : Word) (v : Byte) : (s.memWrite x v).bc = s.bc := by simp [State.bc]
@[simp] theorem bc_skipImmediates (k : Word) : (s.skipImmediates k).bc = s.bc := rfl
@[simp] theorem bc_setReg_a (v : Byte) : (s.setReg .a v).bc = s.bc := rfl
@[simp] theorem de_setBc (w : Word) : (s.setBc w).de = s.de := rfl
@[simp] theorem de_setHl (w : Word) : (s.setHl w).de = s.de := rfl
@[simp] theorem de_setSp (w : Word) : (s.setSp w).de = s.de := rfl
@[simp] theorem de_setPc (w : Word) : (s.setPc w).de = s.de := rfl
@[simp] theorem de_setFlags (w : Flags) : (s.setFlags w).de = s.de := rfl
@[simp] theorem de_setPhase (w : Phase) : (s.setPhase w).de = s.de := rfl
@[simp] theorem de_memWrite (x : Word) (v : Byte) : (s.memWrite x v).de = s.de := by simp [State.de]
@[simp] theorem de_skipImmediates (k : Word) : (s.skipImmediates k).de = s.de := rfl
@[simp] theorem de_setReg_a (v : Byte) : (s.setReg .a v).de = s.de := rfl
@[simp] theorem hl_setBc (w : Word) : (s.setBc w).hl = s.hl := rfl
@[simp] theorem hl_setDe (w : Word) : (s.setDe w).hl = s.hl := rfl
@[simp] theorem hl_setSp (w : Word) : (s.setSp w).hl = s.hl := rfl
@[simp] theorem hl_setPc (w : Word) : (s.setPc w).hl = s.hl := rfl
@[simp] theorem hl_setFlags (w : Flags) : (s.setFlags w).hl = s.hl := rfl
@[simp] theorem hl_setPhase (w : Phase) : (s.setPhase w).hl = s.hl := rfl
@[simp] theorem hl_memWrite (x : Word) (v : Byte) : (s.memWrite x v).hl = s.hl := by simp [State.hl]
@[simp] theorem hl_skipImmediates (k : Word) : (s.skipImmediates k).hl = s.hl := rfl
@[simp] theorem hl_setReg_a (v : Byte) : (s.setReg .a v).hl = s.hl := rfl

@[simp] theorem writeR16_flags (p : R16) (w : Word) : (s.writeR16 p w).flags = s.flags := by cases p <;> rfl
@[simp] theorem writeR16_pc (p : R16) (w : Word) : (s.writeR16 p w).pc = s.pc := by cases p <;> rfl
@[simp] theorem writeR16_ir (p : R16) (w : Word) : (s.writeR16 p w).ir = s.ir := by cases p <;> rfl
@[simp] theorem writeR16_b2 (p : R16) (w : Word) : (s.writeR16 p w).b2 = s.b2 := by cases p <;> rfl
@[simp] theorem writeR16_b3 (p : R16) (w : Word) : (s.writeR16 p w).b3 = s.b3 := by cases p <;> rfl
@[simp] theorem writeR16_status (p : R16) (w : Word) : (s.writeR16 p w).status = s.status := by cases p <;> rfl
@[simp] theorem writeR16_phase (p : R16) (w : Word) : (s.writeR16 p w).phase = s.phase := by cases p <;> rfl
@[simp] theorem writeR16_romLoaded (p : R16) (w : Word) : (s.writeR16 p w).romLoaded = s.romLoaded := by cases p <;> rfl
@[simp] theorem writeR16_config (p : R16) (w : Word) : (s.writeR16 p w).config = s.config := by cases p <;> rfl
@[simp] theorem writeR16_mem (p : R16) (w : Word) : (s.writeR16 p w).mem = s.mem := by cases p <;> rfl
@[simp] theorem writeR16_a (p : R16) (w : Word) : (s.writeR16 p w).a = s.a := by cases p <;> rfl

@[simp] theorem writeR16_sp (p : R16) (w : Word) : (s.writeR16 p w).sp = if p = .sp then w else s.sp := by
  cases p <;> rfl

/-- A pair write is read back through that pair, and through no other (R12, R74). -/
@[simp] theorem readR16_writeR16 (p q : R16) (w : Word) :
    (s.writeR16 p w).readR16 q = if q = p then w else s.readR16 q := by
  cases p <;> cases q <;> simp [State.writeR16, State.readR16]

theorem memRead_writeR16 (p : R16) (w x : Word) : (s.writeR16 p w).memRead x = s.memRead x :=
  memRead_congr s _ (by simp) (by simp) x

/-! ## r16mem -/

@[simp] theorem r16memResolved_flags (m : R16mem) : (s.r16memResolved m).flags = s.flags := by cases m <;> rfl
@[simp] theorem r16memResolved_sp (m : R16mem) : (s.r16memResolved m).sp = s.sp := by cases m <;> rfl
@[simp] theorem r16memResolved_pc (m : R16mem) : (s.r16memResolved m).pc = s.pc := by cases m <;> rfl
@[simp] theorem r16memResolved_ir (m : R16mem) : (s.r16memResolved m).ir = s.ir := by cases m <;> rfl
@[simp] theorem r16memResolved_b2 (m : R16mem) : (s.r16memResolved m).b2 = s.b2 := by cases m <;> rfl
@[simp] theorem r16memResolved_b3 (m : R16mem) : (s.r16memResolved m).b3 = s.b3 := by cases m <;> rfl
@[simp] theorem r16memResolved_status (m : R16mem) : (s.r16memResolved m).status = s.status := by cases m <;> rfl
@[simp] theorem r16memResolved_phase (m : R16mem) : (s.r16memResolved m).phase = s.phase := by cases m <;> rfl
@[simp] theorem r16memResolved_romLoaded (m : R16mem) : (s.r16memResolved m).romLoaded = s.romLoaded := by cases m <;> rfl
@[simp] theorem r16memResolved_config (m : R16mem) : (s.r16memResolved m).config = s.config := by cases m <;> rfl
@[simp] theorem r16memResolved_a (m : R16mem) : (s.r16memResolved m).a = s.a := by cases m <;> rfl
@[simp] theorem r16memResolved_b (m : R16mem) : (s.r16memResolved m).b = s.b := by cases m <;> rfl
@[simp] theorem r16memResolved_c (m : R16mem) : (s.r16memResolved m).c = s.c := by cases m <;> rfl
@[simp] theorem r16memResolved_d (m : R16mem) : (s.r16memResolved m).d = s.d := by cases m <;> rfl
@[simp] theorem r16memResolved_e (m : R16mem) : (s.r16memResolved m).e = s.e := by cases m <;> rfl
@[simp] theorem r16memResolved_mem (m : R16mem) : (s.r16memResolved m).mem = s.mem := by cases m <;> rfl

/-- The resolver's change of `HL` (R75). -/
@[simp] theorem hl_r16memResolved (m : R16mem) :
    (s.r16memResolved m).hl = if m = .atHlInc then s.hl + 1#16 else if m = .atHlDec then s.hl - 1#16 else s.hl := by
  cases m <;> simp [State.r16memResolved]

theorem memRead_r16memResolved (m : R16mem) (x : Word) : (s.r16memResolved m).memRead x = s.memRead x :=
  memRead_congr s _ (by simp) (by simp) x

/-! ## The offset -/

/-- `sext_16(b)` by its formula (R9). -/
theorem sext16_eq : ∀ b : Byte, sext16 b = if b.toNat < 128 then b.setWidth 16 else b.setWidth 16 + 0xFF00#16 := by
  intro b
  have hb := b.isLt
  apply BitVec.eq_of_toNat_eq
  rw [sext16, BitVec.toNat_signExtend, BitVec.msb_eq_decide]
  by_cases h : b.toNat < 128
  · rw [if_pos h, if_neg (by simp; omega)]
    rfl
  · rw [if_neg h, if_pos (by simp; omega), BitVec.toNat_add, BitVec.toNat_setWidth]
    simp only [BitVec.toNat_ofNat, Nat.reducePow, Nat.reduceMod, Nat.reduceSub]
    omega

end Sys2Proof.Machine
end

