-- ==== Sys2Proof/Laws/Exec.lean ====
section
/-! SUPPORT. What each family's operation answers and keeps, once; and what any handler keeps, whichever instruction it is. -/

namespace Sys2Proof.Machine

/-- What every handler keeps: the latches, whether a ROM is loaded, and the parameters. -/
structure HandlerKeeps (s t : State) : Prop where
  ir : t.ir = s.ir
  b2 : t.b2 = s.b2
  b3 : t.b3 = s.b3
  romLoaded : t.romLoaded = s.romLoaded
  config : t.config = s.config
  wf : Memory.wf s.mem → Memory.wf t.mem

/-- What a handler that raises no fatal error also keeps. -/
structure PlainKeeps (s t : State) : Prop extends HandlerKeeps s t where
  status : t.status = s.status
  phase : t.phase = s.phase

/-- What a handler that raises a fatal error does: R206. -/
structure Raises (k : FatalKind) (op : Byte) (s t : State) : Prop extends HandlerKeeps s t where
  status : t.status = .faulted k op
  phase : t.phase = .awaitFetch

/-! ## The families -/

variable {s t : State}

theorem next_plain (h : Host.Outcome.next s = (Host.Outcome.next t : Result)) : PlainKeeps s t := by
  cases h
  exact ⟨⟨rfl, rfl, rfl, rfl, rfl, id⟩, rfl, rfl⟩

theorem storeSp_plain {nn} (h : storeSp nn s = .next t) : PlainKeeps s t := by
  cases h
  exact ⟨⟨by simp, by simp, by simp, by simp, by simp, fun h => memWrite_wf _ (memWrite_wf _ h _ _) _ _⟩, by simp, by simp⟩

theorem loadPair_plain {p nn} (h : loadPair p nn s = .next t) : PlainKeeps s t := by
  cases h
  exact ⟨⟨by simp, by simp, by simp, by simp, by simp, by simp⟩, by simp, by simp⟩

theorem storeA_plain {m} (h : storeA m s = .next t) : PlainKeeps s t := by
  cases h
  exact ⟨⟨by simp, by simp, by simp, by simp, by simp, fun h => memWrite_wf _ (by simpa using h) _ _⟩, by simp, by simp⟩

theorem loadA_plain {m} (h : loadA m s = .next t) : PlainKeeps s t := by
  cases h
  exact ⟨⟨by simp, by simp, by simp, by simp, by simp, by simp⟩, by simp, by simp⟩

theorem loadImm8_plain {d n} (h : loadImm8 d n s = .next t) : PlainKeeps s t := by
  cases h
  exact ⟨⟨by simp, by simp, by simp, by simp, by simp, fun h => writeR8_wf s h _ _⟩, by simp, by simp⟩

theorem move8_plain {d r} (h : move8 d r s = .next t) : PlainKeeps s t := by
  cases h
  exact ⟨⟨by simp, by simp, by simp, by simp, by simp, fun h => writeR8_wf s h _ _⟩, by simp, by simp⟩

theorem addHl_plain {p} (h : addHl p s = .next t) : PlainKeeps s t := by
  cases h
  exact ⟨⟨by simp, by simp, by simp, by simp, by simp, by simp⟩, by simp, by simp⟩

theorem inc16_plain {p} (h : inc16 p s = .next t) : PlainKeeps s t := by
  cases h
  exact ⟨⟨by simp, by simp, by simp, by simp, by simp, by simp⟩, by simp, by simp⟩

theorem dec16_plain {p} (h : dec16 p s = .next t) : PlainKeeps s t := by
  cases h
  exact ⟨⟨by simp, by simp, by simp, by simp, by simp, by simp⟩, by simp, by simp⟩

theorem inc8_plain {o} (h : inc8 o s = .next t) : PlainKeeps s t := by
  cases h
  exact ⟨⟨by simp, by simp, by simp, by simp, by simp, fun h => writeR8_wf s h _ _⟩, by simp, by simp⟩

theorem dec8_plain {o} (h : dec8 o s = .next t) : PlainKeeps s t := by
  cases h
  exact ⟨⟨by simp, by simp, by simp, by simp, by simp, fun h => writeR8_wf s h _ _⟩, by simp, by simp⟩

theorem addToA_plain {v} (h : Host.Outcome.next (addToA v s) = (Host.Outcome.next t : Result)) : PlainKeeps s t := by
  cases h
  exact ⟨⟨by simp [addToA], by simp [addToA], by simp [addToA], by simp [addToA], by simp [addToA], by simp [addToA]⟩,
    by simp [addToA], by simp [addToA]⟩

theorem subtractFromA_plain {v} (h : Host.Outcome.next (subtractFromA v s) = (Host.Outcome.next t : Result)) :
    PlainKeeps s t := by
  cases h
  exact ⟨⟨rfl, rfl, rfl, rfl, rfl, id⟩, rfl, rfl⟩

theorem logicToA_plain {v half} (h : Host.Outcome.next (logicToA v half s) = (Host.Outcome.next t : Result)) :
    PlainKeeps s t := by
  cases h
  exact ⟨⟨rfl, rfl, rfl, rfl, rfl, id⟩, rfl, rfl⟩

theorem subtractFlags_plain {v} (h : Host.Outcome.next (subtractFlags v s) = (Host.Outcome.next t : Result)) :
    PlainKeeps s t := by
  cases h
  exact ⟨⟨rfl, rfl, rfl, rfl, rfl, id⟩, rfl, rfl⟩

theorem jumpRelative_plain {e} (h : jumpRelative e s = .next t) : PlainKeeps s t := by
  cases h
  exact ⟨⟨rfl, rfl, rfl, rfl, rfl, id⟩, rfl, rfl⟩

/-- The two outcomes of `JR cc,e8`. -/
theorem jumpRelativeIf_cases {cc e} (h : jumpRelativeIf cc e s = .next t) :
    (s.condHolds cc = true ∧ t = s.setPc (s.jumpBase + sext16 e)) ∨
    (s.condHolds cc = false ∧ t = s.skipImmediates 1#16) := by
  unfold jumpRelativeIf at h
  cases hc : s.condHolds cc <;> rw [hc] at h <;> cases h
  · exact .inr ⟨rfl, rfl⟩
  · exact .inl ⟨rfl, rfl⟩

theorem jumpRelativeIf_plain {cc e} (h : jumpRelativeIf cc e s = .next t) : PlainKeeps s t := by
  obtain ⟨-, rfl⟩ | ⟨-, rfl⟩ := jumpRelativeIf_cases h <;> exact ⟨⟨rfl, rfl, rfl, rfl, rfl, id⟩, rfl, rfl⟩

theorem raiseFatal_raises {k op} (h : Host.Outcome.next (raiseFatal k op s) = (Host.Outcome.next t : Result)) :
    Raises k op s t := by
  cases h
  exact ⟨⟨rfl, rfl, rfl, rfl, rfl, id⟩, rfl, rfl⟩

/-! ## Any instruction -/

/-- What a handler can do, whichever instruction it is: keep the status, or raise the fatal error of its opcode. -/
theorem exec_cases {i : Instr} (h : exec i s = .next t) :
    PlainKeeps s t ∨
    (i = .unmatchedOp10 ∧ Raises .unmatched 0x10#8 s t) ∨
    (∃ f2, i = .unmatchedColumn7 f2 ∧ Raises .unmatched (opcodeOf 0#2 f2 7#3) s t) ∨
    (∃ f2 f3, i = .unimplementedGroup f2 f3 ∧ Raises .unimplemented (opcodeOf 3#2 f2 f3) s t) ∨
    (i = .unimplementedCb ∧ Raises .unimplemented 0xCB#8 s t) := by
  cases i with
  | unmatchedOp10 => exact .inr (.inl ⟨rfl, raiseFatal_raises h⟩)
  | unmatchedColumn7 f2 => exact .inr (.inr (.inl ⟨f2, rfl, raiseFatal_raises h⟩))
  | unimplementedGroup f2 f3 => exact .inr (.inr (.inr (.inl ⟨f2, f3, rfl, raiseFatal_raises h⟩)))
  | unimplementedCb => exact .inr (.inr (.inr (.inr ⟨rfl, raiseFatal_raises h⟩)))
  | nop | halt => exact .inl (next_plain h)
  | ldAtU16Sp => exact .inl (storeSp_plain h)
  | jrE8 => exact .inl (jumpRelative_plain h)
  | ldBcU16 | ldDeU16 | ldHlU16 | ldSpU16 =>
    exact .inl (loadPair_plain h)
  | ldAtBcA | ldAtDeA | ldAtHlIncA | ldAtHlDecA =>
    exact .inl (storeA_plain h)
  | ldAAtBc | ldAAtDe | ldAAtHlInc | ldAAtHlDec =>
    exact .inl (loadA_plain h)
  | ldBU8 | ldCU8 | ldDU8 | ldEU8 | ldHU8 | ldLU8 | ldAtHlU8 | ldAU8 =>
    exact .inl (loadImm8_plain h)
  | ldBB | ldBC | ldBD | ldBE | ldBH | ldBL | ldBAtHl | ldBA | ldCB | ldCC | ldCD | ldCE | ldCH | ldCL | ldCAtHl
  | ldCA | ldDB | ldDC | ldDD | ldDE | ldDH | ldDL | ldDAtHl | ldDA | ldEB | ldEC | ldED | ldEE | ldEH | ldEL
  | ldEAtHl | ldEA | ldHB | ldHC | ldHD | ldHE | ldHH | ldHL | ldHAtHl | ldHA | ldLB | ldLC | ldLD | ldLE | ldLH
  | ldLL | ldLAtHl | ldLA | ldAtHlB | ldAtHlC | ldAtHlD | ldAtHlE | ldAtHlH | ldAtHlL | ldAtHlA | ldAB | ldAC
  | ldAD | ldAE | ldAH | ldAL | ldAAtHl | ldAA =>
    exact .inl (move8_plain h)
  | addHlBc | addHlDe | addHlHl | addHlSp =>
    exact .inl (addHl_plain h)
  | incBc | incDe | incHl | incSp =>
    exact .inl (inc16_plain h)
  | decBc | decDe | decHl | decSp =>
    exact .inl (dec16_plain h)
  | incB | incC | incD | incE | incH | incL | incAtHl | incA =>
    exact .inl (inc8_plain h)
  | decB | decC | decD | decE | decH | decL | decAtHl | decA =>
    exact .inl (dec8_plain h)
  | addAB | addAC | addAD | addAE | addAH | addAL | addAAtHl | addAA =>
    exact .inl (addToA_plain h)
  | adcAB | adcAC | adcAD | adcAE | adcAH | adcAL | adcAAtHl | adcAA =>
    exact .inl (addToA_plain h)
  | subAB | subAC | subAD | subAE | subAH | subAL | subAAtHl | subAA =>
    exact .inl (subtractFromA_plain h)
  | sbcAB | sbcAC | sbcAD | sbcAE | sbcAH | sbcAL | sbcAAtHl | sbcAA =>
    exact .inl (subtractFromA_plain h)
  | andAB | andAC | andAD | andAE | andAH | andAL | andAAtHl | andAA =>
    exact .inl (logicToA_plain h)
  | xorAB | xorAC | xorAD | xorAE | xorAH | xorAL | xorAAtHl | xorAA =>
    exact .inl (logicToA_plain h)
  | orAB | orAC | orAD | orAE | orAH | orAL | orAAtHl | orAA =>
    exact .inl (logicToA_plain h)
  | cpAB | cpAC | cpAD | cpAE | cpAH | cpAL | cpAAtHl | cpAA =>
    exact .inl (subtractFlags_plain h)
  | jrNzE8 | jrZE8 | jrNcE8 | jrCE8 =>
    exact .inl (jumpRelativeIf_plain h)

/-- Every handler answers a next state: none stops. -/
theorem exec_next (i : Instr) (s : State) : ∃ t, exec i s = .next t := by
  cases i <;> first
    | exact ⟨_, rfl⟩
    | (simp only [exec, execJrNzE8, execJrZE8, execJrNcE8, execJrCE8, jumpRelativeIf]
       cases s.condHolds _ <;> exact ⟨_, rfl⟩)

/-- What every handler keeps. -/
theorem exec_keeps {i : Instr} (h : exec i s = .next t) : HandlerKeeps s t := by
  obtain h | ⟨-, h⟩ | ⟨_, -, h⟩ | ⟨_, _, -, h⟩ | ⟨-, h⟩ := exec_cases h <;> exact h.toHandlerKeeps

end Sys2Proof.Machine
end

