-- ==== Sys2Proof/Laws/PerInstr.lean ====
section
/-! SUPPORT. The round trip of each instruction, one lemma per constructor of `Instr`: the decoder reads back what the encoder
writes, whatever bytes follow. -/

namespace Sys2Proof.Laws.RoundTrip

/-- The bytes of a well-formed instruction, followed by any bytes, decode to it and leave those bytes. -/
def Statement (i : Instr) : Prop := i.wellFormed = true → ∀ rest, decode (i.encode ++ rest) = .ok (i, rest)

theorem nop : Statement (.nop) :=
  fun _ _ => rfl

theorem halt : Statement (.halt) :=
  fun _ _ => rfl

theorem ldAtU16Sp (nn : Word) : Statement (.ldAtU16Sp nn) :=
  fun _ rest => congrArg (fun x => Except.ok (Instr.ldAtU16Sp x, rest)) (wordOf_hi_lo nn)

theorem ldBcU16 (nn : Word) : Statement (.ldBcU16 nn) :=
  fun _ rest => congrArg (fun x => Except.ok (Instr.ldBcU16 x, rest)) (wordOf_hi_lo nn)

theorem ldDeU16 (nn : Word) : Statement (.ldDeU16 nn) :=
  fun _ rest => congrArg (fun x => Except.ok (Instr.ldDeU16 x, rest)) (wordOf_hi_lo nn)

theorem ldHlU16 (nn : Word) : Statement (.ldHlU16 nn) :=
  fun _ rest => congrArg (fun x => Except.ok (Instr.ldHlU16 x, rest)) (wordOf_hi_lo nn)

theorem ldSpU16 (nn : Word) : Statement (.ldSpU16 nn) :=
  fun _ rest => congrArg (fun x => Except.ok (Instr.ldSpU16 x, rest)) (wordOf_hi_lo nn)

theorem ldAtBcA : Statement (.ldAtBcA) :=
  fun _ _ => rfl

theorem ldAtDeA : Statement (.ldAtDeA) :=
  fun _ _ => rfl

theorem ldAtHlIncA : Statement (.ldAtHlIncA) :=
  fun _ _ => rfl

theorem ldAtHlDecA : Statement (.ldAtHlDecA) :=
  fun _ _ => rfl

theorem ldAAtBc : Statement (.ldAAtBc) :=
  fun _ _ => rfl

theorem ldAAtDe : Statement (.ldAAtDe) :=
  fun _ _ => rfl

theorem ldAAtHlInc : Statement (.ldAAtHlInc) :=
  fun _ _ => rfl

theorem ldAAtHlDec : Statement (.ldAAtHlDec) :=
  fun _ _ => rfl

theorem ldBU8 (n : Byte) : Statement (.ldBU8 n) :=
  fun _ _ => rfl

theorem ldCU8 (n : Byte) : Statement (.ldCU8 n) :=
  fun _ _ => rfl

theorem ldDU8 (n : Byte) : Statement (.ldDU8 n) :=
  fun _ _ => rfl

theorem ldEU8 (n : Byte) : Statement (.ldEU8 n) :=
  fun _ _ => rfl

theorem ldHU8 (n : Byte) : Statement (.ldHU8 n) :=
  fun _ _ => rfl

theorem ldLU8 (n : Byte) : Statement (.ldLU8 n) :=
  fun _ _ => rfl

theorem ldAtHlU8 (n : Byte) : Statement (.ldAtHlU8 n) :=
  fun _ _ => rfl

theorem ldAU8 (n : Byte) : Statement (.ldAU8 n) :=
  fun _ _ => rfl

theorem ldBB : Statement (.ldBB) :=
  fun _ _ => rfl

theorem ldBC : Statement (.ldBC) :=
  fun _ _ => rfl

theorem ldBD : Statement (.ldBD) :=
  fun _ _ => rfl

theorem ldBE : Statement (.ldBE) :=
  fun _ _ => rfl

theorem ldBH : Statement (.ldBH) :=
  fun _ _ => rfl

theorem ldBL : Statement (.ldBL) :=
  fun _ _ => rfl

theorem ldBAtHl : Statement (.ldBAtHl) :=
  fun _ _ => rfl

theorem ldBA : Statement (.ldBA) :=
  fun _ _ => rfl

theorem ldCB : Statement (.ldCB) :=
  fun _ _ => rfl

theorem ldCC : Statement (.ldCC) :=
  fun _ _ => rfl

theorem ldCD : Statement (.ldCD) :=
  fun _ _ => rfl

theorem ldCE : Statement (.ldCE) :=
  fun _ _ => rfl

theorem ldCH : Statement (.ldCH) :=
  fun _ _ => rfl

theorem ldCL : Statement (.ldCL) :=
  fun _ _ => rfl

theorem ldCAtHl : Statement (.ldCAtHl) :=
  fun _ _ => rfl

theorem ldCA : Statement (.ldCA) :=
  fun _ _ => rfl

theorem ldDB : Statement (.ldDB) :=
  fun _ _ => rfl

theorem ldDC : Statement (.ldDC) :=
  fun _ _ => rfl

theorem ldDD : Statement (.ldDD) :=
  fun _ _ => rfl

theorem ldDE : Statement (.ldDE) :=
  fun _ _ => rfl

theorem ldDH : Statement (.ldDH) :=
  fun _ _ => rfl

theorem ldDL : Statement (.ldDL) :=
  fun _ _ => rfl

theorem ldDAtHl : Statement (.ldDAtHl) :=
  fun _ _ => rfl

theorem ldDA : Statement (.ldDA) :=
  fun _ _ => rfl

theorem ldEB : Statement (.ldEB) :=
  fun _ _ => rfl

theorem ldEC : Statement (.ldEC) :=
  fun _ _ => rfl

theorem ldED : Statement (.ldED) :=
  fun _ _ => rfl

theorem ldEE : Statement (.ldEE) :=
  fun _ _ => rfl

theorem ldEH : Statement (.ldEH) :=
  fun _ _ => rfl

theorem ldEL : Statement (.ldEL) :=
  fun _ _ => rfl

theorem ldEAtHl : Statement (.ldEAtHl) :=
  fun _ _ => rfl

theorem ldEA : Statement (.ldEA) :=
  fun _ _ => rfl

theorem ldHB : Statement (.ldHB) :=
  fun _ _ => rfl

theorem ldHC : Statement (.ldHC) :=
  fun _ _ => rfl

theorem ldHD : Statement (.ldHD) :=
  fun _ _ => rfl

theorem ldHE : Statement (.ldHE) :=
  fun _ _ => rfl

theorem ldHH : Statement (.ldHH) :=
  fun _ _ => rfl

theorem ldHL : Statement (.ldHL) :=
  fun _ _ => rfl

theorem ldHAtHl : Statement (.ldHAtHl) :=
  fun _ _ => rfl

theorem ldHA : Statement (.ldHA) :=
  fun _ _ => rfl

theorem ldLB : Statement (.ldLB) :=
  fun _ _ => rfl

theorem ldLC : Statement (.ldLC) :=
  fun _ _ => rfl

theorem ldLD : Statement (.ldLD) :=
  fun _ _ => rfl

theorem ldLE : Statement (.ldLE) :=
  fun _ _ => rfl

theorem ldLH : Statement (.ldLH) :=
  fun _ _ => rfl

theorem ldLL : Statement (.ldLL) :=
  fun _ _ => rfl

theorem ldLAtHl : Statement (.ldLAtHl) :=
  fun _ _ => rfl

theorem ldLA : Statement (.ldLA) :=
  fun _ _ => rfl

theorem ldAtHlB : Statement (.ldAtHlB) :=
  fun _ _ => rfl

theorem ldAtHlC : Statement (.ldAtHlC) :=
  fun _ _ => rfl

theorem ldAtHlD : Statement (.ldAtHlD) :=
  fun _ _ => rfl

theorem ldAtHlE : Statement (.ldAtHlE) :=
  fun _ _ => rfl

theorem ldAtHlH : Statement (.ldAtHlH) :=
  fun _ _ => rfl

theorem ldAtHlL : Statement (.ldAtHlL) :=
  fun _ _ => rfl

theorem ldAtHlA : Statement (.ldAtHlA) :=
  fun _ _ => rfl

theorem ldAB : Statement (.ldAB) :=
  fun _ _ => rfl

theorem ldAC : Statement (.ldAC) :=
  fun _ _ => rfl

theorem ldAD : Statement (.ldAD) :=
  fun _ _ => rfl

theorem ldAE : Statement (.ldAE) :=
  fun _ _ => rfl

theorem ldAH : Statement (.ldAH) :=
  fun _ _ => rfl

theorem ldAL : Statement (.ldAL) :=
  fun _ _ => rfl

theorem ldAAtHl : Statement (.ldAAtHl) :=
  fun _ _ => rfl

theorem ldAA : Statement (.ldAA) :=
  fun _ _ => rfl

theorem addHlBc : Statement (.addHlBc) :=
  fun _ _ => rfl

theorem addHlDe : Statement (.addHlDe) :=
  fun _ _ => rfl

theorem addHlHl : Statement (.addHlHl) :=
  fun _ _ => rfl

theorem addHlSp : Statement (.addHlSp) :=
  fun _ _ => rfl

theorem incBc : Statement (.incBc) :=
  fun _ _ => rfl

theorem incDe : Statement (.incDe) :=
  fun _ _ => rfl

theorem incHl : Statement (.incHl) :=
  fun _ _ => rfl

theorem incSp : Statement (.incSp) :=
  fun _ _ => rfl

theorem decBc : Statement (.decBc) :=
  fun _ _ => rfl

theorem decDe : Statement (.decDe) :=
  fun _ _ => rfl

theorem decHl : Statement (.decHl) :=
  fun _ _ => rfl

theorem decSp : Statement (.decSp) :=
  fun _ _ => rfl

theorem incB : Statement (.incB) :=
  fun _ _ => rfl

theorem incC : Statement (.incC) :=
  fun _ _ => rfl

theorem incD : Statement (.incD) :=
  fun _ _ => rfl

theorem incE : Statement (.incE) :=
  fun _ _ => rfl

theorem incH : Statement (.incH) :=
  fun _ _ => rfl

theorem incL : Statement (.incL) :=
  fun _ _ => rfl

theorem incAtHl : Statement (.incAtHl) :=
  fun _ _ => rfl

theorem incA : Statement (.incA) :=
  fun _ _ => rfl

theorem decB : Statement (.decB) :=
  fun _ _ => rfl

theorem decC : Statement (.decC) :=
  fun _ _ => rfl

theorem decD : Statement (.decD) :=
  fun _ _ => rfl

theorem decE : Statement (.decE) :=
  fun _ _ => rfl

theorem decH : Statement (.decH) :=
  fun _ _ => rfl

theorem decL : Statement (.decL) :=
  fun _ _ => rfl

theorem decAtHl : Statement (.decAtHl) :=
  fun _ _ => rfl

theorem decA : Statement (.decA) :=
  fun _ _ => rfl

theorem addAB : Statement (.addAB) :=
  fun _ _ => rfl

theorem addAC : Statement (.addAC) :=
  fun _ _ => rfl

theorem addAD : Statement (.addAD) :=
  fun _ _ => rfl

theorem addAE : Statement (.addAE) :=
  fun _ _ => rfl

theorem addAH : Statement (.addAH) :=
  fun _ _ => rfl

theorem addAL : Statement (.addAL) :=
  fun _ _ => rfl

theorem addAAtHl : Statement (.addAAtHl) :=
  fun _ _ => rfl

theorem addAA : Statement (.addAA) :=
  fun _ _ => rfl

theorem adcAB : Statement (.adcAB) :=
  fun _ _ => rfl

theorem adcAC : Statement (.adcAC) :=
  fun _ _ => rfl

theorem adcAD : Statement (.adcAD) :=
  fun _ _ => rfl

theorem adcAE : Statement (.adcAE) :=
  fun _ _ => rfl

theorem adcAH : Statement (.adcAH) :=
  fun _ _ => rfl

theorem adcAL : Statement (.adcAL) :=
  fun _ _ => rfl

theorem adcAAtHl : Statement (.adcAAtHl) :=
  fun _ _ => rfl

theorem adcAA : Statement (.adcAA) :=
  fun _ _ => rfl

theorem subAB : Statement (.subAB) :=
  fun _ _ => rfl

theorem subAC : Statement (.subAC) :=
  fun _ _ => rfl

theorem subAD : Statement (.subAD) :=
  fun _ _ => rfl

theorem subAE : Statement (.subAE) :=
  fun _ _ => rfl

theorem subAH : Statement (.subAH) :=
  fun _ _ => rfl

theorem subAL : Statement (.subAL) :=
  fun _ _ => rfl

theorem subAAtHl : Statement (.subAAtHl) :=
  fun _ _ => rfl

theorem subAA : Statement (.subAA) :=
  fun _ _ => rfl

theorem sbcAB : Statement (.sbcAB) :=
  fun _ _ => rfl

theorem sbcAC : Statement (.sbcAC) :=
  fun _ _ => rfl

theorem sbcAD : Statement (.sbcAD) :=
  fun _ _ => rfl

theorem sbcAE : Statement (.sbcAE) :=
  fun _ _ => rfl

theorem sbcAH : Statement (.sbcAH) :=
  fun _ _ => rfl

theorem sbcAL : Statement (.sbcAL) :=
  fun _ _ => rfl

theorem sbcAAtHl : Statement (.sbcAAtHl) :=
  fun _ _ => rfl

theorem sbcAA : Statement (.sbcAA) :=
  fun _ _ => rfl

theorem andAB : Statement (.andAB) :=
  fun _ _ => rfl

theorem andAC : Statement (.andAC) :=
  fun _ _ => rfl

theorem andAD : Statement (.andAD) :=
  fun _ _ => rfl

theorem andAE : Statement (.andAE) :=
  fun _ _ => rfl

theorem andAH : Statement (.andAH) :=
  fun _ _ => rfl

theorem andAL : Statement (.andAL) :=
  fun _ _ => rfl

theorem andAAtHl : Statement (.andAAtHl) :=
  fun _ _ => rfl

theorem andAA : Statement (.andAA) :=
  fun _ _ => rfl

theorem xorAB : Statement (.xorAB) :=
  fun _ _ => rfl

theorem xorAC : Statement (.xorAC) :=
  fun _ _ => rfl

theorem xorAD : Statement (.xorAD) :=
  fun _ _ => rfl

theorem xorAE : Statement (.xorAE) :=
  fun _ _ => rfl

theorem xorAH : Statement (.xorAH) :=
  fun _ _ => rfl

theorem xorAL : Statement (.xorAL) :=
  fun _ _ => rfl

theorem xorAAtHl : Statement (.xorAAtHl) :=
  fun _ _ => rfl

theorem xorAA : Statement (.xorAA) :=
  fun _ _ => rfl

theorem orAB : Statement (.orAB) :=
  fun _ _ => rfl

theorem orAC : Statement (.orAC) :=
  fun _ _ => rfl

theorem orAD : Statement (.orAD) :=
  fun _ _ => rfl

theorem orAE : Statement (.orAE) :=
  fun _ _ => rfl

theorem orAH : Statement (.orAH) :=
  fun _ _ => rfl

theorem orAL : Statement (.orAL) :=
  fun _ _ => rfl

theorem orAAtHl : Statement (.orAAtHl) :=
  fun _ _ => rfl

theorem orAA : Statement (.orAA) :=
  fun _ _ => rfl

theorem cpAB : Statement (.cpAB) :=
  fun _ _ => rfl

theorem cpAC : Statement (.cpAC) :=
  fun _ _ => rfl

theorem cpAD : Statement (.cpAD) :=
  fun _ _ => rfl

theorem cpAE : Statement (.cpAE) :=
  fun _ _ => rfl

theorem cpAH : Statement (.cpAH) :=
  fun _ _ => rfl

theorem cpAL : Statement (.cpAL) :=
  fun _ _ => rfl

theorem cpAAtHl : Statement (.cpAAtHl) :=
  fun _ _ => rfl

theorem cpAA : Statement (.cpAA) :=
  fun _ _ => rfl

theorem jrE8 (e : Byte) : Statement (.jrE8 e) :=
  fun _ _ => rfl

theorem jrNzE8 (e : Byte) : Statement (.jrNzE8 e) :=
  fun _ _ => rfl

theorem jrZE8 (e : Byte) : Statement (.jrZE8 e) :=
  fun _ _ => rfl

theorem jrNcE8 (e : Byte) : Statement (.jrNcE8 e) :=
  fun _ _ => rfl

theorem jrCE8 (e : Byte) : Statement (.jrCE8 e) :=
  fun _ _ => rfl

theorem unmatchedOp10 : Statement (.unmatchedOp10) :=
  fun _ _ => rfl

theorem unmatchedColumn7 (f2 : BitVec 3) : Statement (.unmatchedColumn7 f2) :=
  fun _ => decode_unmatchedColumn7 f2

theorem unimplementedGroup (f2 f3 : BitVec 3) : Statement (.unimplementedGroup f2 f3) :=
  fun hw => decode_unimplementedGroup f2 f3 hw

theorem unimplementedCb : Statement (.unimplementedCb) :=
  fun _ _ => rfl

end Sys2Proof.Laws.RoundTrip
end

