-- ==== Sys2Proof/Laws/Step.lean ====
section
/-! SUPPORT. What a step is: from a ready state, the fetch, then the handler of the latched opcode, then the phase; from any
other state, a refusal. -/

namespace Sys2Proof.Machine

variable {s t : State}

theorem fetchCommand_ready (h : s.ready) : s.fetchCommand = .next s.fetch := by
  obtain ⟨h1, h2, h3⟩ := h
  simp [State.fetchCommand, h1, h2, h3]

/-- EXECUTE right after a FETCH runs the handler. -/
theorem executeCommand_fetch (h : s.status = .running) : s.fetch.executeCommand = s.fetch.execute := by
  simp [State.executeCommand, h]

/-- A step from a ready state. -/
theorem step_ready (h : s.ready) : step s =
    finishExecute (exec (decodeLatches (s.memRead s.pc) (s.memRead (s.pc + 1#16)) (s.memRead (s.pc + 2#16))) s.fetch) := by
  rw [step, fetchCommand_ready h]
  exact executeCommand_fetch h.1

/-- FETCH answers a next state only when it is legal (R241). -/
theorem fetchCommand_next (h : s.fetchCommand = .next t) : s.ready ∧ t = s.fetch := by
  unfold State.fetchCommand at h
  cases h1 : s.status with
  | faulted => simp [h1] at h
  | running =>
    cases h2 : s.phase with
    | awaitExecute => simp [h1, h2] at h
    | awaitFetch =>
      cases h3 : s.romLoaded with
      | false => simp [h1, h2, h3] at h
      | true =>
        simp only [h1, h2, h3, cond_true, Host.Outcome.next.injEq] at h
        exact ⟨⟨h1, h2, h3⟩, h.symm⟩

theorem finishExecute_next {r : Result} (h : finishExecute r = .next t) :
    ∃ u, r = .next u ∧ t = u.setPhase .awaitFetch := by
  cases r <;> simp only [finishExecute, reduceCtorEq, Host.Outcome.next.injEq] at h
  exact ⟨_, rfl, h.symm⟩

/-- The one inversion of a step: it started ready, and its handler answered the state but for the phase. -/
theorem step_next (h : step s = .next t) :
    s.ready ∧ ∃ u, exec (decodeLatches (s.memRead s.pc) (s.memRead (s.pc + 1#16)) (s.memRead (s.pc + 2#16))) s.fetch = .next u ∧
      t = u.setPhase .awaitFetch := by
  have hr : s.ready := by
    cases hf : s.fetchCommand with
    | next u => exact (fetchCommand_next hf).1
    | fault r => simp [step, hf, andThen] at h
    | refused r => simp [step, hf, andThen] at h
  rw [step_ready hr] at h
  exact ⟨hr, finishExecute_next h⟩

/-- The fetch keeps the canonical form of memory. -/
theorem fetch_wf (h : Memory.wf s.mem) : Memory.wf s.fetch.mem := h

end Sys2Proof.Machine
end

