-- ==== Sys2Proof/Tests/Slice0.lean ====
section
/-! SUPPORT. Tests: the check of well-formedness, the decoding of every opcode value by words written out from the opcode map
(R80, R81), steps with the results spec/95_test_vectors.md gives (its vector is named in each comment), the bus and the host
commands, and a witness of the hypotheses of each statement. -/

namespace Sys2Proof.Tests

open Sys2Proof.Machine

/-! ## Well-formedness -/

/-- 0xCB is not in the group of the other 63 (R192, R193): the ill-formed term is refused. -/
theorem test_ill_formed_refused : (Instr.unimplementedGroup 1#3 3#3).wellFormed = false := by decide

theorem test_well_formed_accepted : (Instr.unimplementedGroup 1#3 2#3).wellFormed = true ∧
    (Instr.unimplementedGroup 0#3 3#3).wellFormed = true ∧ Instr.unimplementedCb.wellFormed = true := by decide

/-! ## Decoding, sixteen opcode values at a time (R81); the first immediate byte is 0x34 and the second 0x12 -/

/-- Whether each word of the list decodes to its instruction; the number of bits is the row's length. -/
def decodesTo (rows : List (Nat × Nat × Instr)) : Bool := rows.all fun r => decodeTableWord r.1 r.2.1 == some r.2.2

theorem test_decode_row_0 : decodesTo [
    (8, 0x00, .nop), (24, 0x123401, .ldBcU16 0x1234#16), (8, 0x02, .ldAtBcA), (8, 0x03, .incBc), (8, 0x04, .incB),
    (8, 0x05, .decB), (16, 0x3406, .ldBU8 0x34#8), (8, 0x07, .unmatchedColumn7 0#3),
    (24, 0x123408, .ldAtU16Sp 0x1234#16), (8, 0x09, .addHlBc), (8, 0x0A, .ldAAtBc), (8, 0x0B, .decBc),
    (8, 0x0C, .incC), (8, 0x0D, .decC), (16, 0x340E, .ldCU8 0x34#8), (8, 0x0F, .unmatchedColumn7 1#3)] = true := by decide

theorem test_decode_row_1 : decodesTo [
    (8, 0x10, .unmatchedOp10), (24, 0x123411, .ldDeU16 0x1234#16), (8, 0x12, .ldAtDeA), (8, 0x13, .incDe),
    (8, 0x14, .incD), (8, 0x15, .decD), (16, 0x3416, .ldDU8 0x34#8), (8, 0x17, .unmatchedColumn7 2#3),
    (16, 0x3418, .jrE8 0x34#8), (8, 0x19, .addHlDe), (8, 0x1A, .ldAAtDe), (8, 0x1B, .decDe), (8, 0x1C, .incE),
    (8, 0x1D, .decE), (16, 0x341E, .ldEU8 0x34#8), (8, 0x1F, .unmatchedColumn7 3#3)] = true := by decide

theorem test_decode_row_2 : decodesTo [
    (16, 0x3420, .jrNzE8 0x34#8), (24, 0x123421, .ldHlU16 0x1234#16), (8, 0x22, .ldAtHlIncA), (8, 0x23, .incHl),
    (8, 0x24, .incH), (8, 0x25, .decH), (16, 0x3426, .ldHU8 0x34#8), (8, 0x27, .unmatchedColumn7 4#3),
    (16, 0x3428, .jrZE8 0x34#8), (8, 0x29, .addHlHl), (8, 0x2A, .ldAAtHlInc), (8, 0x2B, .decHl), (8, 0x2C, .incL),
    (8, 0x2D, .decL), (16, 0x342E, .ldLU8 0x34#8), (8, 0x2F, .unmatchedColumn7 5#3)] = true := by decide

theorem test_decode_row_3 : decodesTo [
    (16, 0x3430, .jrNcE8 0x34#8), (24, 0x123431, .ldSpU16 0x1234#16), (8, 0x32, .ldAtHlDecA), (8, 0x33, .incSp),
    (8, 0x34, .incAtHl), (8, 0x35, .decAtHl), (16, 0x3436, .ldAtHlU8 0x34#8), (8, 0x37, .unmatchedColumn7 6#3),
    (16, 0x3438, .jrCE8 0x34#8), (8, 0x39, .addHlSp), (8, 0x3A, .ldAAtHlDec), (8, 0x3B, .decSp), (8, 0x3C, .incA),
    (8, 0x3D, .decA), (16, 0x343E, .ldAU8 0x34#8), (8, 0x3F, .unmatchedColumn7 7#3)] = true := by decide

theorem test_decode_row_4 : decodesTo [
    (8, 0x40, .ldBB), (8, 0x41, .ldBC), (8, 0x42, .ldBD), (8, 0x43, .ldBE), (8, 0x44, .ldBH), (8, 0x45, .ldBL),
    (8, 0x46, .ldBAtHl), (8, 0x47, .ldBA), (8, 0x48, .ldCB), (8, 0x49, .ldCC), (8, 0x4A, .ldCD), (8, 0x4B, .ldCE),
    (8, 0x4C, .ldCH), (8, 0x4D, .ldCL), (8, 0x4E, .ldCAtHl), (8, 0x4F, .ldCA)] = true := by decide

theorem test_decode_row_5 : decodesTo [
    (8, 0x50, .ldDB), (8, 0x51, .ldDC), (8, 0x52, .ldDD), (8, 0x53, .ldDE), (8, 0x54, .ldDH), (8, 0x55, .ldDL),
    (8, 0x56, .ldDAtHl), (8, 0x57, .ldDA), (8, 0x58, .ldEB), (8, 0x59, .ldEC), (8, 0x5A, .ldED), (8, 0x5B, .ldEE),
    (8, 0x5C, .ldEH), (8, 0x5D, .ldEL), (8, 0x5E, .ldEAtHl), (8, 0x5F, .ldEA)] = true := by decide

theorem test_decode_row_6 : decodesTo [
    (8, 0x60, .ldHB), (8, 0x61, .ldHC), (8, 0x62, .ldHD), (8, 0x63, .ldHE), (8, 0x64, .ldHH), (8, 0x65, .ldHL),
    (8, 0x66, .ldHAtHl), (8, 0x67, .ldHA), (8, 0x68, .ldLB), (8, 0x69, .ldLC), (8, 0x6A, .ldLD), (8, 0x6B, .ldLE),
    (8, 0x6C, .ldLH), (8, 0x6D, .ldLL), (8, 0x6E, .ldLAtHl), (8, 0x6F, .ldLA)] = true := by decide

theorem test_decode_row_7 : decodesTo [
    (8, 0x70, .ldAtHlB), (8, 0x71, .ldAtHlC), (8, 0x72, .ldAtHlD), (8, 0x73, .ldAtHlE), (8, 0x74, .ldAtHlH),
    (8, 0x75, .ldAtHlL), (8, 0x76, .halt), (8, 0x77, .ldAtHlA), (8, 0x78, .ldAB), (8, 0x79, .ldAC), (8, 0x7A, .ldAD),
    (8, 0x7B, .ldAE), (8, 0x7C, .ldAH), (8, 0x7D, .ldAL), (8, 0x7E, .ldAAtHl), (8, 0x7F, .ldAA)] = true := by decide

theorem test_decode_row_8 : decodesTo [
    (8, 0x80, .addAB), (8, 0x81, .addAC), (8, 0x82, .addAD), (8, 0x83, .addAE), (8, 0x84, .addAH), (8, 0x85, .addAL),
    (8, 0x86, .addAAtHl), (8, 0x87, .addAA), (8, 0x88, .adcAB), (8, 0x89, .adcAC), (8, 0x8A, .adcAD),
    (8, 0x8B, .adcAE), (8, 0x8C, .adcAH), (8, 0x8D, .adcAL), (8, 0x8E, .adcAAtHl), (8, 0x8F, .adcAA)] = true := by decide

theorem test_decode_row_9 : decodesTo [
    (8, 0x90, .subAB), (8, 0x91, .subAC), (8, 0x92, .subAD), (8, 0x93, .subAE), (8, 0x94, .subAH), (8, 0x95, .subAL),
    (8, 0x96, .subAAtHl), (8, 0x97, .subAA), (8, 0x98, .sbcAB), (8, 0x99, .sbcAC), (8, 0x9A, .sbcAD),
    (8, 0x9B, .sbcAE), (8, 0x9C, .sbcAH), (8, 0x9D, .sbcAL), (8, 0x9E, .sbcAAtHl), (8, 0x9F, .sbcAA)] = true := by decide

theorem test_decode_row_A : decodesTo [
    (8, 0xA0, .andAB), (8, 0xA1, .andAC), (8, 0xA2, .andAD), (8, 0xA3, .andAE), (8, 0xA4, .andAH), (8, 0xA5, .andAL),
    (8, 0xA6, .andAAtHl), (8, 0xA7, .andAA), (8, 0xA8, .xorAB), (8, 0xA9, .xorAC), (8, 0xAA, .xorAD),
    (8, 0xAB, .xorAE), (8, 0xAC, .xorAH), (8, 0xAD, .xorAL), (8, 0xAE, .xorAAtHl), (8, 0xAF, .xorAA)] = true := by decide

theorem test_decode_row_B : decodesTo [
    (8, 0xB0, .orAB), (8, 0xB1, .orAC), (8, 0xB2, .orAD), (8, 0xB3, .orAE), (8, 0xB4, .orAH), (8, 0xB5, .orAL),
    (8, 0xB6, .orAAtHl), (8, 0xB7, .orAA), (8, 0xB8, .cpAB), (8, 0xB9, .cpAC), (8, 0xBA, .cpAD), (8, 0xBB, .cpAE),
    (8, 0xBC, .cpAH), (8, 0xBD, .cpAL), (8, 0xBE, .cpAAtHl), (8, 0xBF, .cpAA)] = true := by decide

theorem test_decode_row_C : decodesTo [
    (8, 0xC0, .unimplementedGroup 0#3 0#3), (8, 0xC1, .unimplementedGroup 0#3 1#3),
    (8, 0xC2, .unimplementedGroup 0#3 2#3), (8, 0xC3, .unimplementedGroup 0#3 3#3),
    (8, 0xC4, .unimplementedGroup 0#3 4#3), (8, 0xC5, .unimplementedGroup 0#3 5#3),
    (8, 0xC6, .unimplementedGroup 0#3 6#3), (8, 0xC7, .unimplementedGroup 0#3 7#3),
    (8, 0xC8, .unimplementedGroup 1#3 0#3), (8, 0xC9, .unimplementedGroup 1#3 1#3),
    (8, 0xCA, .unimplementedGroup 1#3 2#3), (8, 0xCB, .unimplementedCb), (8, 0xCC, .unimplementedGroup 1#3 4#3),
    (8, 0xCD, .unimplementedGroup 1#3 5#3), (8, 0xCE, .unimplementedGroup 1#3 6#3),
    (8, 0xCF, .unimplementedGroup 1#3 7#3)] = true := by decide

theorem test_decode_row_D : decodesTo [
    (8, 0xD0, .unimplementedGroup 2#3 0#3), (8, 0xD1, .unimplementedGroup 2#3 1#3),
    (8, 0xD2, .unimplementedGroup 2#3 2#3), (8, 0xD3, .unimplementedGroup 2#3 3#3),
    (8, 0xD4, .unimplementedGroup 2#3 4#3), (8, 0xD5, .unimplementedGroup 2#3 5#3),
    (8, 0xD6, .unimplementedGroup 2#3 6#3), (8, 0xD7, .unimplementedGroup 2#3 7#3),
    (8, 0xD8, .unimplementedGroup 3#3 0#3), (8, 0xD9, .unimplementedGroup 3#3 1#3),
    (8, 0xDA, .unimplementedGroup 3#3 2#3), (8, 0xDB, .unimplementedGroup 3#3 3#3),
    (8, 0xDC, .unimplementedGroup 3#3 4#3), (8, 0xDD, .unimplementedGroup 3#3 5#3),
    (8, 0xDE, .unimplementedGroup 3#3 6#3), (8, 0xDF, .unimplementedGroup 3#3 7#3)] = true := by decide

theorem test_decode_row_E : decodesTo [
    (8, 0xE0, .unimplementedGroup 4#3 0#3), (8, 0xE1, .unimplementedGroup 4#3 1#3),
    (8, 0xE2, .unimplementedGroup 4#3 2#3), (8, 0xE3, .unimplementedGroup 4#3 3#3),
    (8, 0xE4, .unimplementedGroup 4#3 4#3), (8, 0xE5, .unimplementedGroup 4#3 5#3),
    (8, 0xE6, .unimplementedGroup 4#3 6#3), (8, 0xE7, .unimplementedGroup 4#3 7#3),
    (8, 0xE8, .unimplementedGroup 5#3 0#3), (8, 0xE9, .unimplementedGroup 5#3 1#3),
    (8, 0xEA, .unimplementedGroup 5#3 2#3), (8, 0xEB, .unimplementedGroup 5#3 3#3),
    (8, 0xEC, .unimplementedGroup 5#3 4#3), (8, 0xED, .unimplementedGroup 5#3 5#3),
    (8, 0xEE, .unimplementedGroup 5#3 6#3), (8, 0xEF, .unimplementedGroup 5#3 7#3)] = true := by decide

theorem test_decode_row_F : decodesTo [
    (8, 0xF0, .unimplementedGroup 6#3 0#3), (8, 0xF1, .unimplementedGroup 6#3 1#3),
    (8, 0xF2, .unimplementedGroup 6#3 2#3), (8, 0xF3, .unimplementedGroup 6#3 3#3),
    (8, 0xF4, .unimplementedGroup 6#3 4#3), (8, 0xF5, .unimplementedGroup 6#3 5#3),
    (8, 0xF6, .unimplementedGroup 6#3 6#3), (8, 0xF7, .unimplementedGroup 6#3 7#3),
    (8, 0xF8, .unimplementedGroup 7#3 0#3), (8, 0xF9, .unimplementedGroup 7#3 1#3),
    (8, 0xFA, .unimplementedGroup 7#3 2#3), (8, 0xFB, .unimplementedGroup 7#3 3#3),
    (8, 0xFC, .unimplementedGroup 7#3 4#3), (8, 0xFD, .unimplementedGroup 7#3 5#3),
    (8, 0xFE, .unimplementedGroup 7#3 6#3), (8, 0xFF, .unimplementedGroup 7#3 7#3)] = true := by decide

/-- A truncated instruction is refused by name; the machine never meets one, since its fetch reads three bytes. -/
theorem test_decode_truncated : decode [0x01#8, 0x34#8] = .error .truncated := by decide

/-! ## One step each: the vectors of spec/95_test_vectors.md, Part B -/

/-- A state about to fetch given bytes at an address: the launch state but for the harness's bytes and `pc`. -/
def launch (pc : Word) (bytes : List Byte) : State :=
  ({ State.reset with romLoaded := true, pc := pc } : State).memWrites pc bytes

/-- What is seen of the state after one step. -/
def see {α : Type} (s : State) (f : State → α) : Option α :=
  match step s with
  | .next t => some (f t)
  | _ => none

/-- The host's word of an instruction, placed after reset, is what the next step runs. -/
theorem test_fetch_word : see (State.reset.withFetchWord 24 0x123401)
    (fun t => ([t.b, t.c, t.ir, t.b2, t.b3], t.pc)) = some ([0x12#8, 0x34#8, 0x01#8, 0x34#8, 0x12#8], 0x0103#16) := by decide

theorem test_op_76_V2 :
    see { (launch 0x0100#16 [0x76#8]).memWrite 0xC000#16 0x99#8 with h := 0xC0#8 }
    (fun t => ([t.memRead 0xC000#16], [t.pc], t.flags)) =
    some ([0x99#8], [0x0101#16], (⟨false, false, false, false⟩ : Flags)) := by decide

theorem test_fetch_V3 :
    see (((launch 0xFFFF#16 []).memWrite 0x0000#16 0xAA#8).memWrite 0x0001#16 0xBB#8)
    (fun t => ([t.ir, t.b2, t.b3], [t.pc], t.flags)) =
    some ([0x00#8, 0xAA#8, 0xBB#8], [0x0000#16], (⟨false, false, false, false⟩ : Flags)) := by decide

theorem test_op_08_V10 :
    see { launch 0x0100#16 [0x08#8, 0x10#8, 0xC0#8] with sp := 0xABCD#16 }
    (fun t => ([t.memRead 0xC010#16, t.memRead 0xC011#16], [t.pc], t.flags)) =
    some ([0xCD#8, 0xAB#8], [0x0103#16], (⟨false, false, false, false⟩ : Flags)) := by decide

theorem test_op_08_V11 :
    see { launch 0x0100#16 [0x08#8, 0xFF#8, 0xFF#8] with sp := 0x1234#16 }
    (fun t => ([t.memRead 0xFFFF#16, t.memRead 0x0000#16], [t.pc], t.flags)) =
    some ([0x00#8, 0x12#8], [0x0103#16], (⟨false, false, false, false⟩ : Flags)) := by decide

theorem test_op_08_V12 :
    see { launch 0x0100#16 [0x08#8, 0xFF#8, 0xCF#8] with sp := 0xBEEF#16 }
    (fun t => ([t.memRead 0xCFFF#16, t.memRead 0xD000#16], [t.pc], t.flags)) =
    some ([0xEF#8, 0xBE#8], [0x0103#16], (⟨false, false, false, false⟩ : Flags)) := by decide

theorem test_op_11_V14 :
    see (launch 0x0100#16 [0x11#8, 0xFF#8, 0x00#8])
    (fun t => ([t.e], [t.pc], t.flags)) =
    some ([0xFF#8], [0x0103#16], (⟨false, false, false, false⟩ : Flags)) := by decide

theorem test_op_21_V15 :
    see (launch 0x0100#16 [0x21#8, 0x00#8, 0xC0#8])
    (fun t => ([t.h], [t.pc], t.flags)) =
    some ([0xC0#8], [0x0103#16], (⟨false, false, false, false⟩ : Flags)) := by decide

theorem test_op_31_V16 :
    see (launch 0x0100#16 [0x31#8, 0xFE#8, 0xFF#8])
    (fun t => ([t.pc, t.sp], t.flags)) =
    some ([0x0103#16, 0xFFFE#16], (⟨false, false, false, false⟩ : Flags)) := by decide

theorem test_op_02_V17 :
    see { launch 0x0100#16 [0x02#8] with a := 0x5A#8, b := 0xC1#8, c := 0x23#8 }
    (fun t => ([t.memRead 0xC123#16], [t.pc], t.flags)) =
    some ([0x5A#8], [0x0101#16], (⟨false, false, false, false⟩ : Flags)) := by decide

theorem test_op_12_V18 :
    see { launch 0x0100#16 [0x12#8] with a := 0x5A#8, d := 0xA0#8 }
    (fun t => ([t.memRead 0xA000#16], [t.pc], t.flags)) =
    some ([0x5A#8], [0x0101#16], (⟨false, false, false, false⟩ : Flags)) := by decide

theorem test_op_22_V21 :
    see { launch 0x0100#16 [0x22#8] with a := 0x77#8, h := 0xFF#8, l := 0xFF#8 }
    (fun t => ([t.h, t.l, t.memRead 0xFFFF#16], [t.pc], t.flags)) =
    some ([0x00#8, 0x00#8, 0x00#8], [0x0101#16], (⟨false, false, false, false⟩ : Flags)) := by decide

theorem test_op_32_V22 :
    see { launch 0x0100#16 [0x32#8] with a := 0x77#8 }
    (fun t => ([t.h, t.l, t.memRead 0x0000#16], [t.pc], t.flags)) =
    some ([0xFF#8, 0xFF#8, 0x77#8], [0x0101#16], (⟨false, false, false, false⟩ : Flags)) := by decide

theorem test_op_1A_V24 :
    see { launch 0x0100#16 [0x1A#8] with d := 0x01#8 }
    (fun t => ([t.a], [t.pc], t.flags)) =
    some ([0x1A#8], [0x0101#16], (⟨false, false, false, false⟩ : Flags)) := by decide

theorem test_op_2A_V25 :
    see { (launch 0x0100#16 [0x2A#8]).memWrite 0xCFFF#16 0x81#8 with h := 0xCF#8, l := 0xFF#8 }
    (fun t => ([t.a, t.h, t.l], [t.pc], t.flags)) =
    some ([0x81#8, 0xD0#8, 0x00#8], [0x0101#16], (⟨false, false, false, false⟩ : Flags)) := by decide

theorem test_op_2A_V27 :
    see { launch 0x0100#16 [0x2A#8] with a := 0x55#8, h := 0x80#8 }
    (fun t => ([t.a, t.l], [t.pc], t.flags)) =
    some ([0x00#8, 0x01#8], [0x0101#16], (⟨false, false, false, false⟩ : Flags)) := by decide

theorem test_op_3A_V28 :
    see { launch 0x0100#16 [0x3A#8] with a := 0x55#8, h := 0xE0#8 }
    (fun t => ([t.a, t.h, t.l], [t.pc], t.flags)) =
    some ([0xFF#8, 0xDF#8, 0xFF#8], [0x0101#16], (⟨false, false, false, false⟩ : Flags)) := by decide

theorem test_op_3E_V30 :
    see { launch 0x0103#16 [0x3E#8, 0x00#8] with a := 0x99#8 }
    (fun t => ([t.a], [t.pc], t.flags)) =
    some ([0x00#8], [0x0105#16], (⟨false, false, false, false⟩ : Flags)) := by decide

theorem test_op_36_V32 :
    see { launch 0x0100#16 [0x36#8, 0x55#8] with h := 0x80#8 }
    (fun t => ([t.memRead 0x8000#16], [t.pc], t.flags)) =
    some ([0x00#8], [0x0102#16], (⟨false, false, false, false⟩ : Flags)) := by decide

theorem test_op_70_V36 :
    see { launch 0x0100#16 [0x70#8] with b := 0x3C#8, h := 0xD0#8 }
    (fun t => ([t.memRead 0xD000#16], [t.pc], t.flags)) =
    some ([0x3C#8], [0x0101#16], (⟨false, false, false, false⟩ : Flags)) := by decide

theorem test_op_66_V37 :
    see { (launch 0x0100#16 [0x66#8]).memWrite 0xC123#16 0xD0#8 with h := 0xC1#8, l := 0x23#8 }
    (fun t => ([t.h], [t.pc], t.flags)) =
    some ([0xD0#8], [0x0101#16], (⟨false, false, false, false⟩ : Flags)) := by decide

theorem test_op_74_V39 :
    see { launch 0x0100#16 [0x74#8] with h := 0xC1#8, l := 0xAB#8 }
    (fun t => ([t.memRead 0xC1AB#16], [t.pc], t.flags)) =
    some ([0xC1#8], [0x0101#16], (⟨false, false, false, false⟩ : Flags)) := by decide

theorem test_op_46_V41 :
    see { launch 0x0100#16 [0x46#8] with b := 0x11#8, h := 0xFF#8, l := 0x80#8 }
    (fun t => ([t.b], [t.pc], t.flags)) =
    some ([0x00#8], [0x0101#16], (⟨false, false, false, false⟩ : Flags)) := by decide

theorem test_op_09_V50 :
    see { launch 0x0100#16 [0x09#8] with c := 0x01#8, h := 0x0F#8, l := 0xFF#8, flags := ⟨true, true, false, false⟩ }
    (fun t => ([t.h, t.l], [t.pc], t.flags)) =
    some ([0x10#8, 0x00#8], [0x0101#16], (⟨true, false, true, false⟩ : Flags)) := by decide

theorem test_op_19_V51 :
    see { launch 0x0100#16 [0x19#8] with e := 0x01#8, h := 0xFF#8, l := 0xFF#8 }
    (fun t => ([t.h, t.l], [t.pc], t.flags)) =
    some ([0x00#8, 0x00#8], [0x0101#16], (⟨false, false, true, true⟩ : Flags)) := by decide

theorem test_op_29_V52 :
    see { launch 0x0100#16 [0x29#8] with h := 0x80#8 }
    (fun t => ([t.h], [t.pc], t.flags)) =
    some ([0x00#8], [0x0101#16], (⟨false, false, false, true⟩ : Flags)) := by decide

theorem test_op_39_V54 :
    see { launch 0x0100#16 [0x39#8] with h := 0x12#8, l := 0x34#8, sp := 0x1111#16, flags := ⟨true, false, false, false⟩ }
    (fun t => ([t.h, t.l], [t.pc], t.flags)) =
    some ([0x23#8, 0x45#8], [0x0101#16], (⟨true, false, false, false⟩ : Flags)) := by decide

theorem test_op_03_V57 :
    see { launch 0x0100#16 [0x03#8] with b := 0x12#8, c := 0xFF#8 }
    (fun t => ([t.b, t.c], [t.pc], t.flags)) =
    some ([0x13#8, 0x00#8], [0x0101#16], (⟨false, false, false, false⟩ : Flags)) := by decide

theorem test_op_13_V58 :
    see { launch 0x0100#16 [0x13#8] with d := 0xC0#8, e := 0xFF#8, flags := ⟨true, false, false, true⟩ }
    (fun t => ([t.d, t.e], [t.pc], t.flags)) =
    some ([0xC1#8, 0x00#8], [0x0101#16], (⟨true, false, false, true⟩ : Flags)) := by decide

theorem test_op_23_V59 :
    see { launch 0x0100#16 [0x23#8] with h := 0xFF#8, l := 0xFF#8 }
    (fun t => ([t.h, t.l], [t.pc], t.flags)) =
    some ([0x00#8, 0x00#8], [0x0101#16], (⟨false, false, false, false⟩ : Flags)) := by decide

theorem test_op_33_V60 :
    see { launch 0x0100#16 [0x33#8] with sp := 0xFFFF#16 }
    (fun t => ([t.pc, t.sp], t.flags)) =
    some ([0x0101#16, 0x0000#16], (⟨false, false, false, false⟩ : Flags)) := by decide

theorem test_op_0B_V61 :
    see { launch 0x0100#16 [0x0B#8] with flags := ⟨true, false, false, false⟩ }
    (fun t => ([t.b, t.c], [t.pc], t.flags)) =
    some ([0xFF#8, 0xFF#8], [0x0101#16], (⟨true, false, false, false⟩ : Flags)) := by decide

theorem test_op_1B_V62 :
    see { launch 0x0100#16 [0x1B#8] with d := 0x01#8 }
    (fun t => ([t.d, t.e], [t.pc], t.flags)) =
    some ([0x00#8, 0xFF#8], [0x0101#16], (⟨false, false, false, false⟩ : Flags)) := by decide

theorem test_op_2B_V63 :
    see { launch 0x0100#16 [0x2B#8] with h := 0x13#8 }
    (fun t => ([t.h, t.l], [t.pc], t.flags)) =
    some ([0x12#8, 0xFF#8], [0x0101#16], (⟨false, false, false, false⟩ : Flags)) := by decide

theorem test_op_3B_V64 :
    see (launch 0x0100#16 [0x3B#8])
    (fun t => ([t.pc, t.sp], t.flags)) =
    some ([0x0101#16, 0xFFFF#16], (⟨false, false, false, false⟩ : Flags)) := by decide

theorem test_op_04_V71 :
    see { launch 0x0100#16 [0x04#8] with b := 0x0F#8, flags := ⟨false, false, false, true⟩ }
    (fun t => ([t.b], [t.pc], t.flags)) =
    some ([0x10#8], [0x0101#16], (⟨false, false, true, true⟩ : Flags)) := by decide

theorem test_op_3C_V72 :
    see { launch 0x0100#16 [0x3C#8] with a := 0xFF#8 }
    (fun t => ([t.a], [t.pc], t.flags)) =
    some ([0x00#8], [0x0101#16], (⟨true, false, true, false⟩ : Flags)) := by decide

theorem test_op_0C_V74 :
    see { launch 0x0100#16 [0x0C#8] with c := 0x7F#8 }
    (fun t => ([t.c], [t.pc], t.flags)) =
    some ([0x80#8], [0x0101#16], (⟨false, false, true, false⟩ : Flags)) := by decide

theorem test_op_34_V75 :
    see { (launch 0x0100#16 [0x34#8]).memWrite 0xC000#16 0x1F#8 with h := 0xC0#8 }
    (fun t => ([t.memRead 0xC000#16], [t.pc], t.flags)) =
    some ([0x20#8], [0x0101#16], (⟨false, false, true, false⟩ : Flags)) := by decide

theorem test_op_34_V76 :
    see { launch 0x0100#16 [0x34#8] with h := 0x90#8 }
    (fun t => ([t.memRead 0x9000#16], [t.pc], t.flags)) =
    some ([0x00#8], [0x0101#16], (⟨false, false, false, false⟩ : Flags)) := by decide

theorem test_op_05_V78 :
    see { launch 0x0100#16 [0x05#8] with flags := ⟨false, false, false, true⟩ }
    (fun t => ([t.b], [t.pc], t.flags)) =
    some ([0xFF#8], [0x0101#16], (⟨false, true, true, true⟩ : Flags)) := by decide

theorem test_op_3D_V79 :
    see { launch 0x0100#16 [0x3D#8] with a := 0x10#8 }
    (fun t => ([t.a], [t.pc], t.flags)) =
    some ([0x0F#8], [0x0101#16], (⟨false, true, true, false⟩ : Flags)) := by decide

theorem test_op_2D_V80 :
    see { launch 0x0100#16 [0x2D#8] with l := 0x80#8 }
    (fun t => ([t.l], [t.pc], t.flags)) =
    some ([0x7F#8], [0x0101#16], (⟨false, true, true, false⟩ : Flags)) := by decide

theorem test_op_35_V81 :
    see { (launch 0x0100#16 [0x35#8]).memWrite 0xC000#16 0x00#8 with h := 0xC0#8 }
    (fun t => ([t.memRead 0xC000#16], [t.pc], t.flags)) =
    some ([0xFF#8], [0x0101#16], (⟨false, true, true, false⟩ : Flags)) := by decide

theorem test_op_80_V90 :
    see { launch 0x0100#16 [0x80#8] with a := 0x3A#8, b := 0xC6#8 }
    (fun t => ([t.a], [t.pc], t.flags)) =
    some ([0x00#8], [0x0101#16], (⟨true, false, true, true⟩ : Flags)) := by decide

theorem test_op_86_V93 :
    see { (launch 0x0100#16 [0x86#8]).memWrite 0xC000#16 0xFF#8 with a := 0x01#8, h := 0xC0#8 }
    (fun t => ([t.a], [t.pc], t.flags)) =
    some ([0x00#8], [0x0101#16], (⟨true, false, true, true⟩ : Flags)) := by decide

theorem test_op_88_V96 :
    see { launch 0x0100#16 [0x88#8] with a := 0x10#8, b := 0xFF#8, flags := ⟨false, false, false, true⟩ }
    (fun t => ([t.pc], t.flags)) =
    some ([0x0101#16], (⟨false, false, false, false⟩ : Flags)) := by decide

theorem test_op_8B_V98 :
    see { launch 0x0100#16 [0x8B#8] with a := 0x01#8, e := 0x1F#8, flags := ⟨false, false, false, true⟩ }
    (fun t => ([t.a], [t.pc], t.flags)) =
    some ([0x21#8], [0x0101#16], (⟨false, false, false, false⟩ : Flags)) := by decide

theorem test_op_91_V103 :
    see { launch 0x0100#16 [0x91#8] with a := 0x3E#8, c := 0x0F#8 }
    (fun t => ([t.a], [t.pc], t.flags)) =
    some ([0x2F#8], [0x0101#16], (⟨false, true, true, false⟩ : Flags)) := by decide

theorem test_op_96_V106 :
    see { launch 0x0100#16 [0x96#8] with a := 0x10#8, h := 0x80#8 }
    (fun t => ([t.pc], t.flags)) =
    some ([0x0101#16], (⟨false, true, false, false⟩ : Flags)) := by decide

theorem test_op_98_V108 :
    see { launch 0x0100#16 [0x98#8] with a := 0x10#8, b := 0xFF#8, flags := ⟨false, false, false, true⟩ }
    (fun t => ([t.pc], t.flags)) =
    some ([0x0101#16], (⟨false, true, false, false⟩ : Flags)) := by decide

theorem test_op_9F_V111 :
    see { launch 0x0100#16 [0x9F#8] with a := 0x37#8, flags := ⟨false, false, false, true⟩ }
    (fun t => ([t.a], [t.pc], t.flags)) =
    some ([0xFF#8], [0x0101#16], (⟨false, true, true, true⟩ : Flags)) := by decide

theorem test_op_A0_V115 :
    see { launch 0x0100#16 [0xA0#8] with a := 0x5A#8, b := 0x3F#8, flags := ⟨false, true, false, true⟩ }
    (fun t => ([t.a], [t.pc], t.flags)) =
    some ([0x1A#8], [0x0101#16], (⟨false, false, true, false⟩ : Flags)) := by decide

theorem test_op_A6_V118 :
    see { launch 0x0100#16 [0xA6#8] with a := 0xFF#8, h := 0xFE#8 }
    (fun t => ([t.a], [t.pc], t.flags)) =
    some ([0x00#8], [0x0101#16], (⟨true, false, true, false⟩ : Flags)) := by decide

theorem test_op_AF_V119 :
    see { launch 0x0100#16 [0xAF#8] with a := 0x5C#8, flags := ⟨false, true, true, true⟩ }
    (fun t => ([t.a], [t.pc], t.flags)) =
    some ([0x00#8], [0x0101#16], (⟨true, false, false, false⟩ : Flags)) := by decide

theorem test_op_AE_V121 :
    see { launch 0x0100#16 [0xAE#8] with a := 0x3C#8, h := 0xE0#8 }
    (fun t => ([t.a], [t.pc], t.flags)) =
    some ([0xC3#8], [0x0101#16], (⟨false, false, false, false⟩ : Flags)) := by decide

theorem test_op_B0_V122 :
    see { launch 0x0100#16 [0xB0#8] with flags := ⟨false, true, true, true⟩ }
    (fun t => ([t.pc], t.flags)) =
    some ([0x0101#16], (⟨true, false, false, false⟩ : Flags)) := by decide

theorem test_op_B1_V123 :
    see { launch 0x0100#16 [0xB1#8] with a := 0x5A#8, c := 0x0F#8 }
    (fun t => ([t.a], [t.pc], t.flags)) =
    some ([0x5F#8], [0x0101#16], (⟨false, false, false, false⟩ : Flags)) := by decide

theorem test_op_BA_V127 :
    see { launch 0x0100#16 [0xBA#8] with a := 0x3C#8, d := 0x40#8 }
    (fun t => ([t.pc], t.flags)) =
    some ([0x0101#16], (⟨false, true, false, true⟩ : Flags)) := by decide

theorem test_op_BE_V129 :
    see { (launch 0x0100#16 [0xBE#8]).memWrite 0xC000#16 0x01#8 with h := 0xC0#8 }
    (fun t => ([t.memRead 0xC000#16], [t.pc], t.flags)) =
    some ([0x01#8], [0x0101#16], (⟨false, true, true, true⟩ : Flags)) := by decide

theorem test_op_18_V140 :
    see (launch 0x014E#16 [0x18#8, 0xFE#8])
    (fun t => ([t.pc], t.flags)) =
    some ([0x014E#16], (⟨false, false, false, false⟩ : Flags)) := by decide

theorem test_op_18_V143 :
    see (launch 0x0100#16 [0x18#8, 0x80#8])
    (fun t => ([t.pc], t.flags)) =
    some ([0x0082#16], (⟨false, false, false, false⟩ : Flags)) := by decide

theorem test_op_18_V145 :
    see (launch 0x0000#16 [0x18#8, 0x80#8])
    (fun t => ([t.pc], t.flags)) =
    some ([0xFF82#16], (⟨false, false, false, false⟩ : Flags)) := by decide

theorem test_op_20_V146 :
    see (launch 0x0108#16 [0x20#8, 0xFC#8])
    (fun t => ([t.pc], t.flags)) =
    some ([0x0106#16], (⟨false, false, false, false⟩ : Flags)) := by decide

theorem test_op_20_V147 :
    see { launch 0x0108#16 [0x20#8, 0xFC#8] with flags := ⟨true, false, false, false⟩ }
    (fun t => ([t.pc], t.flags)) =
    some ([0x010A#16], (⟨true, false, false, false⟩ : Flags)) := by decide

theorem test_op_28_V149 :
    see { launch 0x0200#16 [0x28#8, 0x05#8] with flags := ⟨true, false, false, false⟩ }
    (fun t => ([t.pc], t.flags)) =
    some ([0x0207#16], (⟨true, false, false, false⟩ : Flags)) := by decide

theorem test_op_30_V151 :
    see { launch 0x0100#16 [0x30#8, 0x10#8] with flags := ⟨false, false, false, true⟩ }
    (fun t => ([t.pc], t.flags)) =
    some ([0x0102#16], (⟨false, false, false, true⟩ : Flags)) := by decide

theorem test_op_38_V152 :
    see { launch 0x0100#16 [0x38#8, 0xF0#8] with flags := ⟨false, false, false, true⟩ }
    (fun t => ([t.pc], t.flags)) =
    some ([0x00F2#16], (⟨false, false, false, true⟩ : Flags)) := by decide

theorem test_op_10_V160 :
    see { launch 0x0100#16 [0x10#8, 0x00#8] with a := 0x12#8 }
    (fun t => ([t.pc], t.flags, t.status)) =
    some ([0x0101#16], (⟨false, false, false, false⟩ : Flags), (.faulted .unmatched 0x10#8 : Status)) := by decide

theorem test_op_27_V162 :
    see { launch 0x0100#16 [0x27#8] with a := 0x9A#8, flags := ⟨false, false, true, false⟩ }
    (fun t => ([t.pc], t.flags, t.status)) =
    some ([0x0101#16], (⟨false, false, true, false⟩ : Flags), (.faulted .unmatched 0x27#8 : Status)) := by decide

theorem test_op_C3_V164 :
    see (launch 0x0100#16 [0xC3#8, 0x50#8, 0x01#8])
    (fun t => ([t.pc], t.flags, t.status)) =
    some ([0x0101#16], (⟨false, false, false, false⟩ : Flags), (.faulted .unimplemented 0xC3#8 : Status)) := by decide

theorem test_op_CB_V165 :
    see { launch 0x0100#16 [0xCB#8, 0x37#8] with a := 0xF0#8 }
    (fun t => ([t.pc], t.flags, t.status)) =
    some ([0x0101#16], (⟨false, false, false, false⟩ : Flags), (.faulted .unimplemented 0xCB#8 : Status)) := by decide

theorem test_op_C5_V166 :
    see { launch 0x0100#16 [0xC5#8] with b := 0x12#8, c := 0x34#8, sp := 0xD000#16 }
    (fun t => ([t.memRead 0xCFFF#16, t.memRead 0xCFFE#16], [t.pc], t.flags, t.status)) =
    some ([0x00#8, 0x00#8], [0x0101#16], (⟨false, false, false, false⟩ : Flags),
      (.faulted .unimplemented 0xC5#8 : Status)) := by decide

theorem test_fetch_V169 :
    see (launch 0xE000#16 [])
    (fun t => ([t.ir, t.b2, t.b3], [t.pc], t.flags, t.status)) =
    some ([0xFF#8, 0xFF#8, 0xFF#8], [0xE001#16], (⟨false, false, false, false⟩ : Flags),
      (.faulted .unimplemented 0xFF#8 : Status)) := by decide

/-! ## The bus, the host commands (Parts C and D) -/

/-- M1, M2, M5 to M9: stored bytes read back and touch no neighbour. -/
theorem test_stored_bytes : ([(0xC000#16, 0xAB#8), (0xCFFF#16, 0x01#8), (0x0000#16, 0x12#8), (0x7FFF#16, 0x34#8),
    (0x3FFF#16, 0x01#8), (0x4000#16, 0x02#8), (0xA000#16, 0x77#8), (0xBFFF#16, 0x78#8), (0xDFFF#16, 0x99#8)].all fun p =>
      let t := State.reset.memWrite p.1 p.2
      t.memRead p.1 == p.2 && t.memRead (p.1 + 1#16) != p.2 && t.memRead (p.1 - 1#16) != p.2) = true := by decide

/-- M3, M4, M10, M14 to M16: stub and gap writes are discarded. -/
theorem test_discarded_bytes : [0x8000#16, 0x9FFF#16, 0xE000#16, 0xFF80#16, 0xFFFF#16, 0xFE00#16, 0xFEA0#16].map
    (fun a => ((State.reset.memWrite a 0x55#8).memRead a, (State.reset.memWrite a 0x55#8).mem)) =
    [(0x00#8, []), (0x00#8, []), (0xFF#8, []), (0x00#8, []), (0x00#8, []), (0x00#8, []), (0xFF#8, [])] := by decide

/-- M12, M13: the ends of the stub and gap ranges. -/
theorem test_region_ends : [0xFDFF#16, 0xFE00#16, 0xFE9F#16, 0xFEA0#16, 0xFEFF#16, 0xFF00#16, 0xFF7F#16, 0xFF80#16, 0xFFFE#16,
    0xFFFF#16].map State.reset.memRead =
    [0xFF#8, 0x00#8, 0x00#8, 0xFF#8, 0xFF#8, 0x00#8, 0x00#8, 0x00#8, 0x00#8, 0x00#8] := by decide

/-- Writing the value an unlisted address reads as removes the entry. -/
theorem test_canonical_form : ((State.reset.memWrite 0xC000#16 0xAB#8).memWrite 0xC000#16 0x00#8).mem = [] := by decide

/-- H6, H7, H8, H12: commands out of order. -/
theorem test_host_protocol : State.reset.fetchCommand = .refused .romNotLoaded ∧ step State.reset = .refused .romNotLoaded ∧
    (launch 0x0100#16 []).executeCommand = .refused .fetchAwaited ∧
    (launch 0x0100#16 []).fetch.fetchCommand = .refused .executeAwaited ∧
    (launch 0x0100#16 []).loadRom [] = .refused .romAlreadyLoaded := ⟨rfl, rfl, rfl, rfl, rfl⟩

/-- H3: a short image. -/
theorem test_short_image : State.reset.loadRom [0x01#8] = .fault .romLoadError := rfl

/-- H9, H10: the two halves of a step. -/
theorem test_half_steps :
    let f := (launch 0x0100#16 [0x01#8, 0x34#8, 0x12#8]).fetch
    ([f.ir, f.b2, f.b3, f.b, f.c], f.pc, f.phase) =
      ([0x01#8, 0x34#8, 0x12#8, 0x00#8, 0x00#8], 0x0101#16, Phase.awaitExecute) ∧
    (match f.executeCommand with
      | .next t => some ([t.b, t.c], t.pc, t.phase)
      | _ => none) = some ([0x12#8, 0x34#8], 0x0103#16, Phase.awaitFetch) := by decide

/-- R11: the packed view, Z at bit 7 (log entry 13). -/
theorem test_packed_flags : ({ State.reset with flags := ⟨true, false, true, false⟩ } : State).packedF = 0xA0#8 := by decide

/-! ## Witnesses: for each statement with hypotheses, a state and operands that meet them; and boundary values -/

/-- A state that is ready, with a canonical memory that is not empty. -/
def busy : State :=
  { (launch 0x0100#16 [0x34#8]).memWrite 0xC000#16 0xFF#8 with
    h := 0xC0#8, sp := 0xABCD#16, flags := ⟨false, true, false, true⟩, a := 0x12#8, b := 0xFF#8 }

theorem witness_DecodeReadsBackEncode : (Instr.unimplementedGroup 7#3 7#3).wellFormed = true ∧
    (Instr.ldAtU16Sp 0xFFFF#16).wellFormed = true := by decide

theorem witness_EncodeReadsBackDecode : decode [0x08#8, 0xFF#8, 0xFE#8, 0x00#8] = .ok (.ldAtU16Sp 0xFEFF#16, [0x00#8]) := by
  decide

/-- Both ends of every range, with `GAP_READ` 0xFF. -/
theorem witness_ReadDispatchesByRange :
    ([0x0000, 0x3FFF, 0x4000, 0x7FFF, 0x8000, 0x9FFF, 0xA000, 0xBFFF, 0xC000, 0xCFFF, 0xD000, 0xDFFF, 0xE000, 0xFDFF, 0xFE00,
      0xFE9F, 0xFEA0, 0xFEFF, 0xFF00, 0xFFFF].map fun a =>
        (State.reset.memWrite (BitVec.ofNat 16 a) 0x5A#8).memRead (BitVec.ofNat 16 a)) =
    [0x5A#8, 0x5A#8, 0x5A#8, 0x5A#8, 0x00#8, 0x00#8, 0x5A#8, 0x5A#8, 0x5A#8, 0x5A#8, 0x5A#8, 0x5A#8, 0xFF#8, 0xFF#8, 0x00#8,
      0x00#8, 0xFF#8, 0xFF#8, 0x00#8, 0x00#8] := by decide

/-- A canonical memory, the first and the last byte of each store, and the byte a write there changes. -/
theorem witness_WriteDispatchesByRange : Memory.wf busy.mem ∧
    ([(Store.rom0, 0, 0x0000#16), (.rom0, 16383, 0x3FFF#16), (.rom1, 0, 0x4000#16), (.rom1, 16383, 0x7FFF#16),
      (.xram, 0, 0xA000#16), (.xram, 8191, 0xBFFF#16), (.wram0, 0, 0xC000#16), (.wram0, 4095, 0xCFFF#16), (.wram1, 0, 0xD000#16),
      (.wram1, 4095, 0xDFFF#16)].all fun p =>
        decide (p.2.1 < p.1.size) && (busy.memWrite p.2.2 0x5A#8).storeByte p.1 p.2.1 == 0x5A#8) = true := by decide

/-- The ends of the stored, the stub and the gap ranges. -/
theorem witness_WrittenByteReadsBack : Memory.wf busy.mem ∧ (0x0001#16 : Word) ≠ 0x0000#16 ∧
    ([0x0000#16, 0x7FFF#16, 0xA000#16, 0xDFFF#16].all fun x =>
      decide (x ≤ 0x7FFF#16 ∨ (0xA000#16 ≤ x ∧ x ≤ 0xDFFF#16))) = true ∧
    ([0x8000#16, 0x9FFF#16, 0xFE00#16, 0xFE9F#16, 0xFF00#16, 0xFFFF#16].all fun x =>
      decide ((0x8000#16 ≤ x ∧ x ≤ 0x9FFF#16) ∨ (0xFE00#16 ≤ x ∧ x ≤ 0xFE9F#16) ∨ 0xFF00#16 ≤ x)) = true ∧
    ([0xE000#16, 0xFDFF#16, 0xFEA0#16, 0xFEFF#16].all fun x =>
      decide ((0xE000#16 ≤ x ∧ x ≤ 0xFDFF#16) ∨ (0xFEA0#16 ≤ x ∧ x ≤ 0xFEFF#16))) = true := by decide

theorem witness_StubAndGapWritesDiscarded : ([0x8000#16, 0x9FFF#16, 0xE000#16, 0xFFFF#16].all fun x =>
    decide ((0x8000#16 ≤ x ∧ x ≤ 0x9FFF#16) ∨ 0xE000#16 ≤ x)) = true := by decide

theorem witness_EqualReadsMeanEqualMemory : Memory.wf busy.mem ∧ Memory.wf busy.fetch.mem ∧
    ∀ (st : Store) (i : Nat), i < st.size → busy.storeByte st i = busy.fetch.storeByte st i :=
  ⟨by decide, by decide, fun _ _ _ => rfl⟩

/-- An image of the least length, and one a byte shorter. -/
theorem witness_images : (∃ image : List Byte, image.length = 32768) ∧ ∃ image : List Byte, image.length = 32767 :=
  ⟨⟨List.replicate _ 0x5A#8, List.length_replicate⟩, List.replicate _ 0x5A#8, List.length_replicate⟩

theorem witness_LoadRomFillsTheRomBanks : Memory.wf State.reset.mem ∧ State.reset.status = .running ∧
    State.reset.phase = .awaitFetch ∧ State.reset.romLoaded = false ∧ (∃ image : List Byte, image.length < 32768) ∧
    ∃ image : List Byte, 32768 ≤ image.length :=
  ⟨by decide, rfl, rfl, rfl, witness_images.2.imp fun _ h => by omega, witness_images.1.imp fun _ h => by omega⟩

theorem witness_LaunchState : ∃ image : List Byte, 32768 ≤ image.length := witness_images.1.imp fun _ h => by omega

theorem witness_CommandsOutOfOrderRefused : busy.ready ∧ ¬State.reset.ready ∧
    busy.fetch.executeCommand ≠ .refused .fetchAwaited :=
  ⟨⟨rfl, rfl, rfl⟩, fun h => absurd h.2.2 (by decide), nofun⟩

theorem witness_FaultedIsTerminal : (raiseFatal .unmatched 0x10#8 busy).status = .faulted .unmatched 0x10#8 := rfl

theorem witness_StepRunsDecodedInstruction : busy.ready ∧
    decode [busy.memRead busy.pc, busy.memRead (busy.pc + 1#16), busy.memRead (busy.pc + 2#16)] =
      .ok (.incAtHl, [0x00#8, 0x00#8]) := ⟨⟨rfl, rfl, rfl⟩, by decide⟩

theorem witness_ReadyStepCompletes : busy.ready := ⟨rfl, rfl, rfl⟩

/-- A stored address; and `LD (u16),SP` that overwrites its own operand bytes. -/
theorem witness_StoresAreSeenByLaterFetches : Memory.wf busy.mem ∧ isStored 0xDFFF#16 = true ∧
    Memory.wf (launch 0xC000#16 [0x08#8, 0x01#8, 0xC0#8]).mem ∧ (launch 0xC000#16 [0x08#8, 0x01#8, 0xC0#8]).ready ∧
    (launch 0xC000#16 [0x08#8, 0x01#8, 0xC0#8]).memRead (launch 0xC000#16 [0x08#8, 0x01#8, 0xC0#8]).pc = 0x08#8 :=
  ⟨by decide, by decide, by decide, ⟨rfl, rfl, rfl⟩, by decide⟩

/-- Each of the five opcodes, the last immediate byte at the end of the last stored range. -/
theorem witness_ImmediateWordIsLittleEndian :
    ((launch 0xDFFD#16 [0x01#8, 0x34#8, 0x12#8]).ready ∧ (launch 0xDFFD#16 [0x08#8, 0x34#8, 0x12#8]).ready) ∧
    ([R16.bc, .de, .hl, .sp].all fun p =>
      let op := BitVec.ofNat 8 (0x01 + 16 * p.code)
      (launch 0xDFFD#16 [op, 0x34#8, 0x12#8]).memRead 0xDFFD#16 == op &&
        see (launch 0xDFFD#16 [op, 0x34#8, 0x12#8]) (fun t => (t.readR16 p, t.pc)) == some (0x1234#16, 0xE000#16)) = true ∧
    (launch 0xDFFD#16 [0x08#8, 0x34#8, 0x12#8]).memRead 0xDFFD#16 = 0x08#8 :=
  ⟨⟨⟨rfl, rfl, rfl⟩, rfl, rfl, rfl⟩, by decide, by decide⟩

theorem witness_MoveR8ToR8 : Memory.wf busy.mem ∧ ¬(R8.atHl = R8.atHl ∧ R8.reg .h = R8.atHl) ∧ isStored busy.hl = true := by
  decide

theorem witness_canonical_memory : Memory.wf busy.mem ∧ busy.mem ≠ [] := by decide

/-- Both bases. -/
theorem witness_RelativeJump : busy.config.jrBase = .two ∧
    ({ busy with config := { jrBase := .one } } : State).config.jrBase = .one := ⟨rfl, rfl⟩

/-- Each condition holds in one state and fails in another, with both bases. -/
theorem witness_ConditionalRelativeJump :
    ([Cond.nz, .z, .nc, .c].all fun cc =>
      ({ State.reset with flags := ⟨true, false, false, true⟩ } : State).condHolds cc !=
        ({ State.reset with flags := ⟨false, false, false, false⟩ } : State).condHolds cc) = true ∧
    State.reset.config.jrBase = .two ∧ ({ State.reset with config := { jrBase := .one } } : State).config.jrBase = .one := by
  decide

/-- The first and the last fatal opcode of each kind. -/
theorem witness_FatalStepReportsItsOpcode : isUnmatched 0x07#8 ∧ isUnmatched 0x3F#8 ∧ isUnimplemented 0xC0#8 ∧
    isUnimplemented 0xFF#8 ∧ (launch 0x0100#16 [0x3F#8]).ready ∧
    isUnmatched ((launch 0x0100#16 [0x3F#8]).memRead (launch 0x0100#16 [0x3F#8]).pc) ∧
    (launch 0x0100#16 [0xC0#8]).ready ∧
    isUnimplemented ((launch 0x0100#16 [0xC0#8]).memRead (launch 0x0100#16 [0xC0#8]).pc) := by
  refine ⟨?_, ?_, ?_, ?_, ⟨rfl, rfl, rfl⟩, ?_, ⟨rfl, rfl, rfl⟩, ?_⟩ <;> simp only [isUnmatched, isUnimplemented] <;> decide

theorem witness_OnlyFatalOpcodesFault : ∃ t, step (launch 0x0100#16 [0xCB#8]) = .next t ∧
    t.status = .faulted .unimplemented 0xCB#8 := ⟨_, rfl, rfl⟩

theorem witness_OnlyArithmeticChangesFlags : ∃ t, step busy = .next t ∧ t.flags ≠ busy.flags := ⟨_, rfl, by decide⟩

theorem witness_OnlyThreeInstructionsChangeSp : ∃ t, step (launch 0x0100#16 [0x3B#8]) = .next t ∧
    t.sp ≠ (launch 0x0100#16 [0x3B#8]).sp := ⟨_, rfl, by decide⟩

theorem witness_OnlyStoresChangeMemory : ∃ t, step busy = .next t ∧ t.mem ≠ busy.mem := ⟨_, rfl, by decide⟩

/-- A step of each clause: three bytes, two bytes, the jumps taken and not taken, and one byte. -/
theorem witness_StepEndsPastTheInstruction :
    ([[0x31#8, 0x00#8, 0x00#8], [0x3E#8, 0x00#8], [0x18#8, 0x80#8], [0x18#8, 0x7F#8], [0x20#8, 0xFE#8], [0x28#8, 0xFE#8],
      [0x30#8, 0xFE#8], [0x38#8, 0xFE#8], [0xFF#8]].map fun bytes => see (launch 0x0200#16 bytes) fun t => t.pc) =
    [some 0x0203#16, some 0x0202#16, some 0x0182#16, some 0x0281#16, some 0x0200#16, some 0x0202#16, some 0x0200#16,
      some 0x0202#16, some 0x0201#16] ∧ (launch 0x0200#16 []).config.jrBase = .two := by decide

theorem witness_StepLeavesFetchedLatches : ∃ t, step busy = .next t := ⟨_, rfl⟩

theorem witness_InvariantHoldsAtStart : State.reset.Inv ∧
    ∃ image t, State.reset.loadRom image = .next t := by
  obtain ⟨image, h⟩ := witness_images.1
  exact ⟨⟨by decide, trivial, nofun⟩, image, _, if_neg (by rw [h]; decide)⟩

theorem witness_StepKeepsInvariant : busy.Inv ∧ ∃ t, step busy = .next t :=
  ⟨⟨by decide, trivial, nofun⟩, _, rfl⟩

/-- A faulted state meets the invariant too. -/
theorem witness_Inv_faulted : (raiseFatal .unmatched 0x10#8 (launch 0x0100#16 [0x10#8]).fetch).Inv :=
  ⟨by decide, show isUnmatched _ by simp only [isUnmatched]; decide, fun _ _ e => by cases e; exact ⟨by decide, rfl⟩⟩

theorem witness_IncrementThenDecrementR8 : Memory.wf busy.mem ∧ (R8.atHl = .atHl → isStored busy.hl = true) := by decide

/-- Carry clear; Carry set with a low nibble other than 0xF, with the low nibble 0xF of 0x0F and 0xEF, and with 0xFF. -/
theorem witness_CarryFoldAgainstThreeInputAdder : State.reset.flags.c = false ∧ busy.flags.c = true ∧
    (busy.readR8 (.reg .a)).toNat % 16 ≠ 15 ∧ (busy.readR8 (.reg .b)).toNat = 255 ∧
    ([0x0F#8, 0xEF#8].all fun v =>
      let n := (({ busy with c := v } : State).readR8 (.reg .c)).toNat
      n % 16 == 15 && n != 255 && ({ busy with c := v } : State).flags.c) = true := by decide

end Sys2Proof.Tests
end

section
/-! PROOFS. Register pairs by arithmetic (R12, R74): the value a pair reads, and the two bytes a pair write leaves. -/

namespace Sys2Proof

/-- The low half of a word as the remainder by 256 (R9). -/
theorem loByte_eq_mod (w : Word) : loByte w = BitVec.ofNat 8 (w.toNat % 256) := by
  apply BitVec.eq_of_toNat_eq
  simp [loByte_eq]

end Sys2Proof

namespace Sys2Proof.Machine

section

variable (s : State) (w : Word)

theorem readR16_bc_toNat : (s.readR16 .bc).toNat = s.b.toNat * 256 + s.c.toNat := wordOf_toNat s.b s.c

theorem readR16_de_toNat : (s.readR16 .de).toNat = s.d.toNat * 256 + s.e.toNat := wordOf_toNat s.d s.e

theorem readR16_hl_toNat : (s.readR16 .hl).toNat = s.h.toNat * 256 + s.l.toNat := wordOf_toNat s.h s.l

theorem writeR16_bc_eq :
    s.writeR16 .bc w = { s with b := BitVec.ofNat 8 (w.toNat / 256), c := BitVec.ofNat 8 (w.toNat % 256) } := by
  rw [← hiByte_eq, ← loByte_eq_mod]; rfl

theorem writeR16_de_eq :
    s.writeR16 .de w = { s with d := BitVec.ofNat 8 (w.toNat / 256), e := BitVec.ofNat 8 (w.toNat % 256) } := by
  rw [← hiByte_eq, ← loByte_eq_mod]; rfl

theorem writeR16_hl_eq :
    s.writeR16 .hl w = { s with h := BitVec.ofNat 8 (w.toNat / 256), l := BitVec.ofNat 8 (w.toNat % 256) } := by
  rw [← hiByte_eq, ← loByte_eq_mod]; rfl

/-- A pair reads back the word written to it, whatever the halves were (R12). -/
theorem readR16_writeR16_same (p : R16) : (s.writeR16 p w).readR16 p = w := by
  rw [readR16_writeR16, if_pos rfl]

end

/-- Settles O11: the three pairs are `wordOf` of their registers, so their values are `wordOf_toNat` and their halves
`hiByte_eq` and `loByte_eq_mod`; `SP` is one register, read and written whole. -/
theorem pairIsHighByteFirst : Obligations.PairIsHighByteFirst := fun s w =>
  ⟨readR16_bc_toNat s, readR16_de_toNat s, readR16_hl_toNat s, rfl,
    writeR16_bc_eq s w, writeR16_de_eq s w, writeR16_hl_eq s w, rfl, readR16_writeR16_same s w⟩

end Sys2Proof.Machine
end

section
/-! PROOFS. The bus over the whole address space (spec/20_memory.md): the kind of a range (R41), what a read answers in it
(R42), what a write does to the bytes of the stores (R43), and a read after a write (R56). -/

namespace Sys2Proof.Machine

/-! ## The ranges -/

/-- The three kinds and their ranges: the twelve rows of R41, taken together by kind. -/
theorem kind_regionOf_cases (x : Word) :
    ((regionOf x).kind = .stored ∧ (x.toNat ≤ 0x7FFF ∨ 0xA000 ≤ x.toNat ∧ x.toNat ≤ 0xDFFF)) ∨
    ((regionOf x).kind = .stub ∧
      (0x8000 ≤ x.toNat ∧ x.toNat ≤ 0x9FFF ∨ 0xFE00 ≤ x.toNat ∧ x.toNat ≤ 0xFE9F ∨ 0xFF00 ≤ x.toNat)) ∨
    ((regionOf x).kind = .gap ∧ (0xE000 ≤ x.toNat ∧ x.toNat ≤ 0xFDFF ∨ 0xFEA0 ≤ x.toNat ∧ x.toNat ≤ 0xFEFF)) := by
  obtain ⟨h, _, _⟩ | ⟨h, _, _⟩ | ⟨h, _, _⟩ | ⟨h, _, _⟩ | ⟨h, _, _⟩ | ⟨h, _, _⟩ | ⟨h, _, _⟩ | ⟨h, _, _⟩ | ⟨h, _, _⟩ |
    ⟨h, _, _⟩ | ⟨h, _, _⟩ | ⟨h, _, _⟩ := regionOf_cases x <;>
  · simp only [h, Region.kind, reduceCtorEq, true_and, false_and, false_or, or_false]
    omega

/-- The bytes of a store lie at stored addresses (R41). -/
theorem isStored_base_add (st : Store) (i : Nat) (hi : i < st.size) :
    st.base + i < 0x10000 ∧ isStored (BitVec.ofNat 16 (st.base + i)) = true := by
  apply isStored_ofNat
  cases st <;> simp only [Store.base, Store.size] at hi ⊢ <;> omega

/-! ## Reads -/

/-- A byte of a store is what the bus reads at its address (R41, R42). -/
theorem memRead_base_add (s : State) (st : Store) (i : Nat) (hi : i < st.size) :
    s.memRead (BitVec.ofNat 16 (st.base + i)) = s.storeByte st i := by
  obtain ⟨hlt, hs⟩ := isStored_base_add st i hi
  rw [memRead_of_stored s _ hs, BitVec.toNat_ofNat, Nat.mod_eq_of_lt hlt, State.storeByte]

/-- A read in the range of a store is the store's byte (R42). -/
theorem memRead_eq_storeByte (s : State) (x : Word) (st : Store) (h : st.base ≤ x.toNat ∧ x.toNat < st.base + st.size) :
    s.memRead x = s.storeByte st (x.toNat - st.base) := by
  rw [← memRead_base_add s st _ (by omega), Nat.add_sub_cancel' h.1, BitVec.ofNat_toNat, BitVec.setWidth_eq]

/-- A read in a stub range answers 0x00, whatever the state (R42, R45). -/
theorem memRead_of_stub (s : State) (x : Word)
    (h : 0x8000 ≤ x.toNat ∧ x.toNat ≤ 0x9FFF ∨ 0xFE00 ≤ x.toNat ∧ x.toNat ≤ 0xFE9F ∨ 0xFF00 ≤ x.toNat) :
    s.memRead x = 0x00#8 := by
  have hk : (regionOf x).kind = .stub := by
    obtain ⟨_, hx⟩ | ⟨hk, _⟩ | ⟨_, hx⟩ := kind_regionOf_cases x
    · omega
    · exact hk
    · omega
  rw [State.memRead, hk]

/-- A read in a gap range answers `GAP_READ`, whatever the memory (R42, R46). -/
theorem memRead_of_gap (s : State) (x : Word)
    (h : 0xE000 ≤ x.toNat ∧ x.toNat ≤ 0xFDFF ∨ 0xFEA0 ≤ x.toNat ∧ x.toNat ≤ 0xFEFF) :
    s.memRead x = s.config.gapRead := by
  have hk : (regionOf x).kind = .gap := by
    obtain ⟨_, hx⟩ | ⟨_, hx⟩ | ⟨hk, _⟩ := kind_regionOf_cases x
    · omega
    · omega
    · exact hk
  rw [State.memRead, hk]

/-- Settles O6: along the chain of R42, each row is a store, a stub range or a gap range, and `memRead_eq_storeByte`,
`memRead_of_stub` or `memRead_of_gap` says what it reads. -/
theorem readDispatchesByRange : Obligations.ReadDispatchesByRange := by
  intro s addr
  split_ifs
  · exact memRead_eq_storeByte s addr .rom0 (by simp only [Store.base, Store.size]; omega)
  · exact memRead_eq_storeByte s addr .rom1 (by simp only [Store.base, Store.size]; omega)
  · exact memRead_of_stub s addr (by omega)
  · exact memRead_eq_storeByte s addr .xram (by simp only [Store.base, Store.size]; omega)
  · exact memRead_eq_storeByte s addr .wram0 (by simp only [Store.base, Store.size]; omega)
  · exact memRead_eq_storeByte s addr .wram1 (by simp only [Store.base, Store.size]; omega)
  · exact memRead_of_gap s addr (by omega)
  · exact memRead_of_stub s addr (by omega)
  · exact memRead_of_gap s addr (by omega)
  · exact memRead_of_stub s addr (by omega)

/-! ## Writes -/

/-- A write changes no field but memory (R43). -/
theorem memWrite_frame (s : State) (x : Word) (v : Byte) : { s.memWrite x v with mem := s.mem } = s := by
  cases hx : isStored x
  · rw [memWrite_of_not_stored s x v hx]
  · rw [memWrite_of_stored s x v hx]

/-- What a write does to each byte of each store: it sets the one at its address, if there is one (R43). -/
theorem storeByte_memWrite (s : State) (h : Memory.wf s.mem) (x : Word) (v : Byte) (st : Store) (i : Nat)
    (hi : i < st.size) :
    (s.memWrite x v).storeByte st i = if st.base + i = x.toNat then v else s.storeByte st i := by
  obtain ⟨hlt, hs⟩ := isStored_base_add st i hi
  have hx : BitVec.ofNat 16 (st.base + i) = x ∧ isStored x = true ↔ st.base + i = x.toNat := by
    rw [and_iff_left_of_imp fun e => e ▸ hs, ← BitVec.toNat_inj, BitVec.toNat_ofNat, Nat.mod_eq_of_lt hlt]
  rw [← memRead_base_add _ st i hi, memRead_memWrite s h, memRead_base_add s st i hi]
  simp only [hx]

/-- Settles O7: `memWrite_frame` and `storeByte_memWrite`. For a store, the row of R43 that names it says that the byte's
bus address is the address written, and the other rows do not apply. -/
theorem writeDispatchesByRange : Obligations.WriteDispatchesByRange := by
  refine fun s addr v h => ⟨memWrite_frame s addr v, fun st i hi => ?_⟩
  rw [storeByte_memWrite s h addr v st i hi]
  cases st <;>
  · simp only [Store.base, Store.size, reduceCtorEq, true_and, false_and, if_false] at hi ⊢
    exact if_congr (by omega) rfl rfl

/-- Settles O8: `memRead_memWrite` at the address written, where it is stored, and at every other address; in the stub and
gap ranges a read does not depend on memory. -/
theorem writtenByteReadsBack : Obligations.WrittenByteReadsBack := by
  intro s addr v h
  refine ⟨fun hs => ?_, fun x hx => ?_, fun hs => memRead_of_stub _ addr ?_, fun hg => ?_⟩
  · rw [memRead_memWrite s h, if_pos ⟨rfl, (isStored_iff addr).mpr hs⟩]
  · rw [memRead_memWrite s h, if_neg fun e => hx e.1]
  · simpa [BitVec.le_def] using hs
  · rw [memRead_of_gap _ addr (by simpa [BitVec.le_def] using hg), memWrite_config]

end Sys2Proof.Machine
end

section
/-! PROOFS. The load and store instructions (spec/41_loads.md): the encoding and the dispatch of each family, the bus and the
registers after its updates, and the statements. -/

namespace Sys2Proof

/-! ## Encodings -/

/-- The opcode byte from its fields: `IR = f1 * 64 + f2 * 8 + f3` (R71). -/
theorem opcodeOf_eq_ofNat : ∀ (f1 : BitVec 2) (f2 f3 : BitVec 3),
    opcodeOf f1 f2 f3 = BitVec.ofNat 8 (64 * f1.toNat + 8 * f2.toNat + f3.toNat) := by decide

/-- The r8 table is read back from each operand's code (R73). -/
theorem R8.ofCode_code (o : R8) : R8.ofCode (BitVec.ofNat 3 o.code) = o := by
  obtain r | _ := o
  · cases r <;> rfl
  · rfl

/-- A code has three bits (R73). -/
theorem R8.toNat_ofNat_code (o : R8) : (BitVec.ofNat 3 o.code).toNat = o.code := by
  obtain r | _ := o
  · cases r <;> rfl
  · rfl

/-- The `(01,dst,src)` block (R126): its opcode is what the decoder reads as this move, and the decoder's instruction encodes
to the opcode it was read from. -/
theorem encode_move8 (d r : R8) : (Instr.move8 d r).encode = [BitVec.ofNat 8 (0x40 + 8 * d.code + r.code)] := by
  have h := (decodeLatches_encode (opcodeOf 1#2 (BitVec.ofNat 3 d.code) (BitVec.ofNat 3 r.code)) 0 0).2
  rw [decodeLatches_field1_1, R8.ofCode_code, R8.ofCode_code, immediateCount_field1_1, List.take_zero,
    opcodeOf_eq_ofNat, R8.toNat_ofNat_code, R8.toNat_ofNat_code] at h
  exact h

theorem encode_loadPair (p : R16) (nn : Word) :
    (Instr.loadPair p nn).encode = [BitVec.ofNat 8 (0x01 + 16 * p.code), loByte nn, hiByte nn] := by cases p <;> rfl

theorem encode_storeA (m : R16mem) : (Instr.storeA m).encode = [BitVec.ofNat 8 (0x02 + 16 * m.code)] := by cases m <;> rfl

theorem encode_loadA (m : R16mem) : (Instr.loadA m).encode = [BitVec.ofNat 8 (0x0A + 16 * m.code)] := by cases m <;> rfl

end Sys2Proof

namespace Sys2Proof.Machine

section

variable (s : State)

/-! ## Dispatch: every instruction of a family is the family's operation -/

/-- The `(01,dst,src)` block but for its slot (HL),(HL), which is HALT (R105, R126). -/
theorem exec_move8 (d r : R8) (h : ¬(d = .atHl ∧ r = .atHl)) : exec (Instr.move8 d r) s = move8 d r s := by
  obtain dst | _ := d <;> obtain src | _ := r
  · cases dst <;> cases src <;> rfl
  · cases dst <;> rfl
  · cases src <;> rfl
  · exact absurd ⟨rfl, rfl⟩ h

theorem exec_loadPair (p : R16) (nn : Word) : exec (Instr.loadPair p nn) s = loadPair p nn s := by cases p <;> rfl

theorem exec_storeA (m : R16mem) : exec (Instr.storeA m) s = storeA m s := by cases m <;> rfl

theorem exec_loadA (m : R16mem) : exec (Instr.loadA m) s = loadA m s := by cases m <;> rfl

/-! ## The pc and the machine's other fields -/

/-- Past the opcode byte and `k` immediate bytes, counted from the opcode byte (R101). -/
theorem pc_add_eq_a0_add (k : Word) : s.pc + k = s.a0 + (k + 1#16) := by
  rw [State.a0, BitVec.add_comm k, ← BitVec.add_assoc, BitVec.sub_add_cancel]

/-- The fetch leaves `pc` one past the opcode byte (R101). -/
theorem pc_eq_a0_add_one : s.pc = s.a0 + 1#16 := (BitVec.sub_add_cancel s.pc 1#16).symm

/-- A handler that raises no fatal error changes registers, flags, `sp`, `pc` and memory only. -/
theorem PlainKeeps.keepsMachine {s t : State} (h : PlainKeeps s t) : KeepsMachine s t :=
  ⟨h.ir, h.b2, h.b3, h.status, h.phase, h.romLoaded, h.config⟩

/-! ## The bus -/

@[simp] theorem memRead_skipImmediates (k x : Word) : (s.skipImmediates k).memRead x = s.memRead x := rfl

@[simp] theorem memRead_setReg (r : Reg8) (v : Byte) (x : Word) : (s.setReg r v).memRead x = s.memRead x :=
  memRead_congr s _ (setReg_mem s r v) (setReg_config s r v) x

/-- Read after write, with storedness asked of the address read (R56). -/
theorem memRead_memWrite_stored (h : Memory.wf s.mem) (x y : Word) (v : Byte) :
    (s.memWrite x v).memRead y = if isStored y = true ∧ y = x then v else s.memRead y := by
  rw [memRead_memWrite s h]
  exact if_congr ⟨fun ⟨e, hs⟩ => ⟨e ▸ hs, e⟩, fun ⟨hs, e⟩ => ⟨e, e ▸ hs⟩⟩ rfl rfl

/-- Two writes at neighbouring addresses, the address after `0xFFFF` being `0x0000` (R121): neither hides the other. -/
theorem memRead_memWrite_memWrite_succ (h : Memory.wf s.mem) (x y : Word) (v w : Byte) :
    ((s.memWrite x v).memWrite (x + 1#16) w).memRead y =
      if isStored y = true ∧ y = x then v
      else if isStored y = true ∧ y = x + 1#16 then w
      else s.memRead y := by
  have hne : x + 1#16 ≠ x := by simp
  rw [memRead_memWrite_stored _ (memWrite_wf s h x v), memRead_memWrite_stored s h]
  apply ite_ite_comm
  rintro ⟨-, h₁⟩ ⟨-, h₂⟩
  exact hne (h₁.symm.trans h₂)

/-! ## The r16mem resolver -/

/-- The resolver changes no register but `H` and `L` (R75). -/
theorem r16memResolved_keepsRegsBut (m : R16mem) : KeepsRegsBut [.h, .l] s (s.r16memResolved m) := by
  intro r hr
  obtain ⟨hh, hl⟩ : r ≠ .h ∧ r ≠ .l := by simpa using hr
  have hset (w : Word) : (s.setHl w).reg r = s.reg r := by rw [reg_setHl, if_neg hh, if_neg hl]
  cases m with
  | atBc | atDe => rfl
  | atHlInc | atHlDec => exact hset _

end

/-! ## The statements -/

/-- Settles O25: one register or memory write of the value read before it (`reg_writeR8`, `memRead_writeR8`). -/
theorem moveR8ToR8 : Obligations.MoveR8ToR8 := fun d r s hwf hne =>
  ⟨encode_move8 d r, _, exec_move8 s d r hne, reg_writeR8 s d _, memRead_writeR8 s hwf d _,
    writeR8_flags s d _, writeR8_sp s d _, (writeR8_pc s d _).trans (pc_eq_a0_add_one s), (move8_plain rfl).keepsMachine⟩

/-- Settles O27: the pair's write, by its halves (`hiByte_eq`, `loByte_eq`), and the two immediate bytes passed. -/
theorem loadPairImmediate : Obligations.LoadPairImmediate := by
  intro p nn s
  dsimp only
  rw [← hiByte_eq, ← loByte_eq, ← show s.pc + 2#16 = s.a0 + 3#16 from pc_add_eq_a0_add s 2#16, exec_loadPair]
  refine ⟨encode_loadPair p nn, ?_⟩
  cases p <;> rfl

/-- Settles O28: `storeSp` is the two writes of `memRead_memWrite_memWrite_succ`, low byte first. -/
theorem storeStackPointer : Obligations.StoreStackPointer := by
  intro nn s hwf
  rw [← hiByte_eq, ← loByte_eq, ← hiByte_eq, ← loByte_eq]
  refine ⟨rfl, _, rfl, (memRead_memWrite_memWrite_succ s hwf nn · _ _), ?_, ?_, ?_, ?_, (storeSp_plain rfl).keepsMachine⟩
  · simp
  · simp
  · simp
  · simpa using pc_add_eq_a0_add s 2#16

/-- Settles O29: the resolver changes `HL` and nothing else (`hl_r16memResolved`, `r16memResolved_keepsRegsBut`), and the
write goes to the address resolved before that change. -/
theorem storeAThroughPair : Obligations.StoreAThroughPair := by
  intro m s hwf
  refine ⟨encode_storeA m, _, exec_storeA s m, fun x => ?_, ?_, fun r hr => ?_, ?_, ?_, ?_, (storeA_plain rfl).keepsMachine⟩
  · rw [memRead_memWrite_stored _ (by simpa using hwf), memRead_r16memResolved]
    cases m <;> rfl
  · rw [hl_memWrite, hl_r16memResolved]
    cases m <;> rfl
  · rw [reg_memWrite]
    exact r16memResolved_keepsRegsBut s m r hr
  · simp
  · simp
  · simpa using pc_eq_a0_add_one s

/-- Settles O30: the resolver changes `HL` and nothing else, and the byte comes from the address resolved before that
change, in a memory the resolver leaves alone (`memRead_r16memResolved`). -/
theorem loadAThroughPair : Obligations.LoadAThroughPair := by
  intro m s
  refine ⟨encode_loadA m, _, exec_loadA s m, ?_, ?_, fun r hr => ?_, fun x => ?_, ?_, ?_, ?_, (loadA_plain rfl).keepsMachine⟩
  · rw [memRead_r16memResolved]
    cases m <;> rfl
  · rw [hl_setReg_a, hl_r16memResolved]
    cases m <;> rfl
  · rw [reg_setReg, if_neg (List.ne_of_not_mem_cons hr)]
    exact r16memResolved_keepsRegsBut s m r (List.not_mem_of_not_mem_cons hr)
  · rw [memRead_setReg, memRead_r16memResolved]
  · simp
  · simp
  · simpa using pc_eq_a0_add_one s

end Sys2Proof.Machine
end

section
/-! PROOFS. `ADD HL,r16` (spec/42_arith16.md): the halves of a word sum, the carries of R140 by arithmetic, and the
statement. -/

namespace Sys2Proof

/-- The high byte of a wrapped sum is that of the exact sum: the bit lost by wrapping lies above it. -/
theorem hiByte_add (x y : Word) : hiByte (x + y) = BitVec.ofNat 8 ((x.toNat + y.toNat) / 256) := by
  rw [hiByte_eq, BitVec.toNat_add]
  apply BitVec.eq_of_toNat_eq
  simp only [BitVec.toNat_ofNat]
  omega

/-- The low byte of a wrapped sum is that of the exact sum. -/
theorem loByte_add (x y : Word) : loByte (x + y) = BitVec.ofNat 8 (x.toNat + y.toNat) := by
  apply BitVec.eq_of_toNat_eq
  simp [loByte_eq]

/-- `ADD HL,r16` has the opcode `(00,{001,011,101,111},001)` (R140). -/
theorem encode_addHl (p : R16) : (Instr.addHl p).encode = [BitVec.ofNat 8 (0x09 + 16 * p.code)] := by cases p <;> rfl

end Sys2Proof

namespace Sys2Proof.Machine

/-- Bits 11 to 0 of a word are its remainder by 4096, so the half carry is that of the remainders' sum (R140). -/
theorem addWordFlags_eq (x y : Word) : addWordFlags x y =
    { half := decide (0x0FFF < x.toNat % 4096 + y.toNat % 4096), full := decide (0xFFFF < x.toNat + y.toNat) } := by
  simp [addWordFlags, BitVec.extractLsb'_toNat]

section

variable (s : State) (p : R16)

theorem exec_addHl : exec (Instr.addHl p) s = addHl p s := by cases p <;> rfl

/-- The family's operation by its bytes and carries: both operands are read from `s`, before `HL` is written (R140). -/
theorem addHl_eq : addHl p s = .next
    { s with
      h := hiByte (s.hl + s.readR16 p)
      l := loByte (s.hl + s.readR16 p)
      flags :=
        { s.flags with
          n := false
          h := (addWordFlags s.hl (s.readR16 p)).half
          c := (addWordFlags s.hl (s.readR16 p)).full } } := rfl

end

/-- Settles O31: `addHl_eq` with the halves of the sum (`hiByte_add`, `loByte_add`) and the carries (`addWordFlags_eq`) by
arithmetic; the old `HL` is `h * 256 + l` (`readR16_hl_toNat`). -/
theorem addPairToHl : Obligations.AddPairToHl := by
  intro p s
  dsimp only
  have hhl : s.hl.toNat = s.h.toNat * 256 + s.l.toNat := readR16_hl_toNat s
  refine ⟨encode_addHl p, ?_, pc_eq_a0_add_one s⟩
  rw [exec_addHl, addHl_eq, hiByte_add, loByte_add, addWordFlags_eq, hhl]

end Sys2Proof.Machine
end

section
/-! PROOFS. The ALU group on `A` (spec/43_alu8.md): its encodings and its dispatch, the flag unit (R150 to R152) by
arithmetic, each shared operation by its result and flags, and the statements. -/

namespace Sys2Proof

/-- The `(10,op,src)` block (R77): its opcode is what the decoder reads as this operation and operand, and the decoder's
instruction encodes to the opcode it was read from. -/
theorem encode_alu (k : BitVec 3) (o : R8) :
    (Instr.alu (.ofCode k) o).encode = [BitVec.ofNat 8 (0x80 + 8 * k.toNat + o.code)] := by
  have h := (decodeLatches_encode (opcodeOf 2#2 k (BitVec.ofNat 3 o.code)) 0 0).2
  rw [decodeLatches_field1_2, R8.ofCode_code, immediateCount_field1_2, List.take_zero, opcodeOf_eq_ofNat,
    R8.toNat_ofNat_code] at h
  exact h

end Sys2Proof

namespace Sys2Proof.Machine

/-! ## Dispatch -/

/-- The model's operation of each row of the ALU table (R77); `exec_alu` ties it to `exec`. -/
def aluOperation : AluOp → R8 → State → Result
  | .add => addA
  | .adc => adcA
  | .sub => subA
  | .sbc => sbcA
  | .and => andA
  | .xor => xorA
  | .or => orA
  | .cp => cpA

/-- Every instruction of the group is its row's operation on its operand. -/
theorem exec_alu (op : AluOp) (o : R8) (s : State) : exec (Instr.alu op o) s = aluOperation op o s := by
  obtain r | _ := o
  · cases op <;> cases r <;> rfl
  · cases op <;> rfl

/-! ## The flag unit by arithmetic -/

/-- Bits 3 to 0 of a byte are its remainder by 16. -/
theorem lowNibble_eq_mod (x : Byte) : lowNibble x = x.toNat % 16 := by
  simp [lowNibble, BitVec.extractLsb'_toNat]

theorem addFlags_eq (x y : Byte) : addFlags x y =
    { half := decide (0x10 ≤ x.toNat % 16 + y.toNat % 16), full := decide (0x100 ≤ x.toNat + y.toNat) } := by
  rw [addFlags, lowNibble_eq_mod, lowNibble_eq_mod]

theorem subFlags_eq (x y : Byte) : subFlags x y =
    { half := decide (x.toNat % 16 < y.toNat % 16), full := decide (x.toNat < y.toNat) } := by
  rw [subFlags, lowNibble_eq_mod, lowNibble_eq_mod]

theorem zeroFlag_eq_decide (x : Byte) : zeroFlag x = decide (x = 0) := rfl

/-- The wrapped sum is zero when the exact sum is a multiple of 256. -/
theorem zeroFlag_add (x y : Byte) : zeroFlag (x + y) = decide ((x.toNat + y.toNat) % 256 = 0) := by
  rw [zeroFlag_eq_decide, decide_eq_decide, ← BitVec.toNat_inj, BitVec.toNat_add]
  rfl

/-- The wrapped difference is zero when the operands are equal. -/
theorem zeroFlag_sub (x y : Byte) : zeroFlag (x - y) = decide (x.toNat = y.toNat) := by
  rw [zeroFlag_eq_decide, decide_eq_decide, BitVec.toNat_inj]
  exact sub_eq_zero

/-- A wrapped difference as the exact one, raised by 256 to be a natural (R9). -/
theorem byte_sub_eq_ofNat (x y : Byte) : x - y = BitVec.ofNat 8 (x.toNat + 256 - y.toNat) := by
  rw [BitVec.sub_def]
  congr 1
  omega

/-! ## The shared operations -/

section

variable (rhs : Byte) (s : State)

/-- The addition into `A` (R156, R157), for any right operand. -/
theorem addToA_eq : addToA rhs s =
    { s with
      a := BitVec.ofNat 8 (s.a.toNat + rhs.toNat)
      flags :=
        { z := decide ((s.a.toNat + rhs.toNat) % 256 = 0)
          n := false
          h := decide (0x10 ≤ s.a.toNat % 16 + rhs.toNat % 16)
          c := decide (0x100 ≤ s.a.toNat + rhs.toNat) } } := by
  rw [addToA, addFlags_eq, zeroFlag_add, BitVec.add_def]
  rfl

/-- The flags of the subtraction (R158, R159, R163), for any right operand: nothing but the flags changes. -/
theorem subtractFlags_eq : subtractFlags rhs s =
    { s with
      flags :=
        { z := decide (s.a.toNat = rhs.toNat)
          n := true
          h := decide (s.a.toNat % 16 < rhs.toNat % 16)
          c := decide (s.a.toNat < rhs.toNat) } } := by
  rw [subtractFlags, subFlags_eq, zeroFlag_sub]
  rfl

/-- The subtraction into `A` (R158, R159), for any right operand: `subtractFlags` and the difference. -/
theorem subtractFromA_eq : subtractFromA rhs s =
    { s with
      a := BitVec.ofNat 8 (s.a.toNat + 256 - rhs.toNat)
      flags :=
        { z := decide (s.a.toNat = rhs.toNat)
          n := true
          h := decide (s.a.toNat % 16 < rhs.toNat % 16)
          c := decide (s.a.toNat < rhs.toNat) } } := by
  rw [subtractFromA, subtractFlags_eq, byte_sub_eq_ofNat]
  rfl

end

/-- A logic operation's result into `A` (R160, R161, R162), for any result. -/
theorem logicToA_eq (res : Byte) (half : Bool) (s : State) : logicToA res half s =
    { s with a := res, flags := ⟨decide (res = 0), false, half, false⟩ } := rfl

/-! ## The statements -/

/-- Settles O34: each operation is the shared one on the operand read from `s` (`addToA_eq`, `subtractFromA_eq`,
`subtractFlags_eq`). -/
theorem addSubtractAndCompare : Obligations.AddSubtractAndCompare := fun o s =>
  ⟨encode_alu 0 o, encode_alu 2 o, encode_alu 7 o,
    (exec_alu .add o s).trans (congrArg Host.Outcome.next (addToA_eq (s.readR8 o) s)),
    (exec_alu .sub o s).trans (congrArg Host.Outcome.next (subtractFromA_eq (s.readR8 o) s)),
    (exec_alu .cp o s).trans (congrArg Host.Outcome.next (subtractFlags_eq (s.readR8 o) s)),
    pc_eq_a0_add_one s⟩

/-- Settles O36: the three results are the bitwise operations themselves, and `logicToA_eq` gives the flags. -/
theorem logicOperations : Obligations.LogicOperations := fun o s =>
  ⟨encode_alu 4 o, encode_alu 5 o, encode_alu 6 o,
    s.a &&& s.readR8 o, s.a ^^^ s.readR8 o, s.a ||| s.readR8 o,
    fun _ => ⟨BitVec.getLsbD_and, BitVec.getLsbD_xor, BitVec.getLsbD_or⟩,
    (exec_alu .and o s).trans (congrArg Host.Outcome.next (logicToA_eq _ true s)),
    (exec_alu .xor o s).trans (congrArg Host.Outcome.next (logicToA_eq _ false s)),
    (exec_alu .or o s).trans (congrArg Host.Outcome.next (logicToA_eq _ false s)),
    pc_eq_a0_add_one s⟩

end Sys2Proof.Machine
end

section
/-! PROOFS. The decoder and the encoder (spec/30_encoding.md): the two round trips, the length table (R79), and the opcodes
that decode to a fatal instruction (R195). -/

namespace Sys2Proof

open Sys2Proof.Machine

/-! ## The round trips -/

/-- Settles O1, by the round trip of each constructor. An instruction with no operand, or with its byte operands written out
as they are, reads back by evaluation; a word operand is its two halves put together again, and the fields of the two
families of fatal opcodes are read back from the opcode. -/
theorem decodeReadsBackEncode : Obligations.DecodeReadsBackEncode := by
  intro i rest hw
  cases i with
  | ldAtU16Sp nn => exact Laws.RoundTrip.ldAtU16Sp nn hw rest
  | ldBcU16 nn => exact Laws.RoundTrip.ldBcU16 nn hw rest
  | ldDeU16 nn => exact Laws.RoundTrip.ldDeU16 nn hw rest
  | ldHlU16 nn => exact Laws.RoundTrip.ldHlU16 nn hw rest
  | ldSpU16 nn => exact Laws.RoundTrip.ldSpU16 nn hw rest
  | unmatchedColumn7 f2 => exact decode_unmatchedColumn7 f2 rest
  | unimplementedGroup f2 f3 => exact decode_unimplementedGroup f2 f3 hw rest
  | _ => rfl

/-- What the list decoder answers: the instruction of an opcode and the immediates it takes, which are the bytes read. -/
theorem decode_ok {bytes rest : List Byte} {i : Instr} (h : decode bytes = .ok (i, rest)) :
    ∃ op b2 b3, i = decodeLatches op b2 b3 ∧ bytes = op :: [b2, b3].take (immediateCount op) ++ rest := by
  unfold decode at h
  split at h
  · cases h
  · rename_i op tail
    split at h
    · rename_i hk
      cases h
      exact ⟨op, _, _, rfl, by rw [hk]; rfl⟩
    · rename_i b2 rest hk
      cases h
      exact ⟨op, b2, _, rfl, by rw [hk]; rfl⟩
    · rename_i b2 b3 rest hk
      cases h
      exact ⟨op, b2, b3, rfl, by rw [hk]; rfl⟩
    · cases h

/-- Settles O2: the bytes read are an opcode and its immediates (`decode_ok`), and so is the encoding of what they decode to
(`decodeLatches_encode`). -/
theorem encodeReadsBackDecode : Obligations.EncodeReadsBackDecode := by
  intro bytes i rest h
  obtain ⟨op, b2, b3, rfl, rfl⟩ := decode_ok h
  obtain ⟨hwf, henc⟩ := decodeLatches_encode op b2 b3
  exact ⟨hwf, by rw [henc]⟩

/-- Settles O3: the eighteen words decode by evaluation. -/
theorem opcodeMapWordsDecode : Obligations.OpcodeMapWordsDecode :=
  ⟨rfl, rfl, rfl, rfl, rfl, rfl, rfl, rfl, rfl, rfl, rfl, rfl, rfl, rfl, rfl, rfl, rfl, rfl⟩

/-! ## The length -/

/-- The decoded instruction is as long as its opcode says (R79). -/
theorem length_decodeLatches (op b2 b3 : Byte) : (decodeLatches op b2 b3).length = opcodeLength op := by
  have hle := immediateCount_le op
  rw [Instr.length, (decodeLatches_encode op b2 b3).2, List.length_cons, List.length_take, opcodeLength]
  simp only [List.length_cons, List.length_nil]
  omega

/-- The length table of R79, written out. -/
theorem opcodeLength_eq : ∀ op : Byte, opcodeLength op =
    if op ∈ [0x01#8, 0x11#8, 0x21#8, 0x31#8, 0x08#8] then 3
    else if op ∈ [0x06#8, 0x0E#8, 0x16#8, 0x1E#8, 0x26#8, 0x2E#8, 0x36#8, 0x3E#8, 0x18#8, 0x20#8, 0x28#8, 0x30#8, 0x38#8]
      then 2
    else 1 := by decide

/-- Settles O4: `length_decodeLatches` and the table. -/
theorem opcodeByteGivesLength : Obligations.OpcodeByteGivesLength := fun op b2 b3 =>
  (length_decodeLatches op b2 b3).trans (opcodeLength_eq op)

/-! ## The fatal opcodes -/

/-- An encoding has one opcode byte, its first. -/
theorem opcode_eq {i : Instr} {op x : Byte} {xs ys : List Byte} (h : i.encode = op :: xs) (hx : i.encode = x :: ys) :
    op = x := (List.cons.inj (h.symm.trans hx)).1

/-- The opcode byte is the first byte of the encoding of what it decodes to. -/
theorem eq_of_decodeLatches {op b2 b3 x : Byte} {xs : List Byte} (h : (decodeLatches op b2 b3).encode = x :: xs) :
    op = x := opcode_eq (decodeLatches_encode op b2 b3).2 h

theorem isUnmatched_column7 : ∀ f2 : BitVec 3, isUnmatched (opcodeOf 0#2 f2 7#3) := by
  unfold isUnmatched
  decide

theorem isUnmatched_op10 : isUnmatched 0x10#8 := by
  unfold isUnmatched
  decide

theorem isUnimplemented_quarter3 : ∀ f2 f3 : BitVec 3, isUnimplemented (opcodeOf 3#2 f2 f3) := by
  unfold isUnimplemented
  decide

/-- An unimplemented opcode has `f1 = 3` (R192). -/
theorem field1_of_isUnimplemented : ∀ op : Byte, isUnimplemented op → field1 op = 3#2 := by
  unfold isUnimplemented
  decide

/-- The unmatched opcodes are those of R190 and R191. -/
theorem isUnmatched_iff (op b2 b3 : Byte) : isUnmatched op ↔
    decodeLatches op b2 b3 = .unmatchedOp10 ∨ ∃ f2, decodeLatches op b2 b3 = .unmatchedColumn7 f2 := by
  constructor
  · intro h
    simp only [isUnmatched, List.mem_cons, List.not_mem_nil, or_false] at h
    obtain rfl | rfl | rfl | rfl | rfl | rfl | rfl | rfl | rfl := h
    case inr.inr.inl => exact .inl rfl
    all_goals exact .inr ⟨_, rfl⟩
  · rintro (h | ⟨f2, h⟩)
    · exact eq_of_decodeLatches (congrArg Instr.encode h) ▸ isUnmatched_op10
    · exact eq_of_decodeLatches (congrArg Instr.encode h) ▸ isUnmatched_column7 f2

/-- The unimplemented opcodes are those of R192 and R193. -/
theorem isUnimplemented_iff (op b2 b3 : Byte) : isUnimplemented op ↔
    decodeLatches op b2 b3 = .unimplementedCb ∨ ∃ f2 f3, decodeLatches op b2 b3 = .unimplementedGroup f2 f3 := by
  constructor
  · intro h
    rw [← opcodeOf_fields op, field1_of_isUnimplemented op h, decodeLatches_field1_3, decodeQuarter3]
    cases field2 op == 1#3 && field3 op == 3#3
    · exact .inr ⟨_, _, rfl⟩
    · exact .inl rfl
  · rintro (h | ⟨f2, f3, h⟩)
    · exact eq_of_decodeLatches (congrArg Instr.encode h) ▸ isUnimplemented_quarter3 1#3 3#3
    · exact eq_of_decodeLatches (congrArg Instr.encode h) ▸ isUnimplemented_quarter3 f2 f3

/-- The three classes of O5, by opcode number: 0 executes, 1 is unmatched, 2 is unimplemented (R195). -/
def opcodeClass (n : Nat) : Nat :=
  match decodeLatches (BitVec.ofNat 8 n) 0 0 with
  | .unmatchedOp10 | .unmatchedColumn7 _ => 1
  | .unimplementedGroup _ _ | .unimplementedCb => 2
  | _ => 0

/-- How many opcodes of a range are of each class. -/
def classCounts (l : List Nat) : List Nat :=
  [l.countP (opcodeClass · = 0), l.countP (opcodeClass · = 1), l.countP (opcodeClass · = 2)]

/-- The opcodes by quarters, which are the values of `f1` (R71). -/
theorem range_256 :
    List.range 256 = List.range' 0 64 ++ List.range' 64 64 ++ List.range' 128 64 ++ List.range' 192 64 := by
  rw [List.range_eq_range', List.range'_append_1, List.range'_append_1, List.range'_append_1]

theorem classCounts_quarter0 : classCounts (List.range' 0 64) = [55, 9, 0] := by decide
theorem classCounts_quarter1 : classCounts (List.range' 64 64) = [64, 0, 0] := by decide
theorem classCounts_quarter2 : classCounts (List.range' 128 64) = [64, 0, 0] := by decide
theorem classCounts_quarter3 : classCounts (List.range' 192 64) = [0, 0, 64] := by decide

theorem classCounts_append (l m : List Nat) :
    classCounts (l ++ m) = List.zipWith (· + ·) (classCounts l) (classCounts m) := by
  simp only [classCounts, List.countP_append, List.zipWith]

/-- Settles O5: which opcodes decode to each kind is `isUnmatched_iff` and `isUnimplemented_iff`; the counts are those of the
four quarters, added. -/
theorem opcodeCensus : Obligations.OpcodeCensus := by
  refine ⟨isUnmatched_iff, isUnimplemented_iff, ?_⟩
  show classCounts (List.range 256) = [183, 9, 64]
  rw [range_256, classCounts_append, classCounts_append, classCounts_append, classCounts_quarter0, classCounts_quarter1,
    classCounts_quarter2, classCounts_quarter3]
  rfl

end Sys2Proof
end

section
/-! PROOFS. The instructions a decoder answers, by family: the encodings and the dispatch of the families that have none yet,
and for any decoded instruction what its handler does to the flags, `sp`, memory and `pc`. -/

namespace Sys2Proof

/-! ## Encodings -/

/-- A code has three bits (R73). -/
theorem R8.code_lt (o : R8) : o.code < 8 := R8.toNat_ofNat_code o ▸ (BitVec.ofNat 3 o.code).isLt

theorem encode_loadImm8 (d : R8) (n : Byte) : (Instr.loadImm8 d n).encode = [BitVec.ofNat 8 (0x06 + 8 * d.code), n] := by
  obtain r | _ := d
  · cases r <;> rfl
  · rfl

theorem encode_inc16 (p : R16) : (Instr.inc16 p).encode = [BitVec.ofNat 8 (0x03 + 16 * p.code)] := by cases p <;> rfl

theorem encode_dec16 (p : R16) : (Instr.dec16 p).encode = [BitVec.ofNat 8 (0x0B + 16 * p.code)] := by cases p <;> rfl

theorem encode_inc8 (o : R8) : (Instr.inc8 o).encode = [BitVec.ofNat 8 (0x04 + 8 * o.code)] := by
  obtain r | _ := o
  · cases r <;> rfl
  · rfl

theorem encode_dec8 (o : R8) : (Instr.dec8 o).encode = [BitVec.ofNat 8 (0x05 + 8 * o.code)] := by
  obtain r | _ := o
  · cases r <;> rfl
  · rfl

theorem encode_jumpRelativeIf (cc : Cond) (e : Byte) :
    (Instr.jumpRelativeIf cc e).encode = [BitVec.ofNat 8 (0x20 + 8 * cc.code), e] := by cases cc <;> rfl

/-! ## The families of decoded instructions -/

/-- The instructions the decoder answers, by family and operands; the slot (HL),(HL) of the `(01,dst,src)` block is HALT
(R105). `decodeLatches_decoded` ties it to the decoder. -/
inductive Decoded : Instr → Prop
  | nop : Decoded .nop
  | halt : Decoded .halt
  | storeSp (nn : Word) : Decoded (.ldAtU16Sp nn)
  | loadPair (p : R16) (nn : Word) : Decoded (.loadPair p nn)
  | storeA (m : R16mem) : Decoded (.storeA m)
  | loadA (m : R16mem) : Decoded (.loadA m)
  | loadImm8 (d : R8) (n : Byte) : Decoded (.loadImm8 d n)
  | move8 (d r : R8) (h : ¬(d = .atHl ∧ r = .atHl)) : Decoded (.move8 d r)
  | addHl (p : R16) : Decoded (.addHl p)
  | inc16 (p : R16) : Decoded (.inc16 p)
  | dec16 (p : R16) : Decoded (.dec16 p)
  | inc8 (o : R8) : Decoded (.inc8 o)
  | dec8 (o : R8) : Decoded (.dec8 o)
  | alu (k : BitVec 3) (o : R8) : Decoded (.alu (.ofCode k) o)
  | jump (e : Byte) : Decoded (.jrE8 e)
  | jumpIf (cc : Cond) (e : Byte) : Decoded (.jumpRelativeIf cc e)
  | unmatchedOp10 : Decoded .unmatchedOp10
  | unmatchedColumn7 (f2 : BitVec 3) : Decoded (.unmatchedColumn7 f2)
  | unimplementedGroup (f2 f3 : BitVec 3) : Decoded (.unimplementedGroup f2 f3)
  | unimplementedCb : Decoded .unimplementedCb

/-- The `(00,f2,f3)` quarter, by the rows of R80: `f3` chooses the family, and the parity of `f2` or its value what is left
to choose. -/
theorem decodeQuarter0_decoded (f2 f3 : BitVec 3) (b2 b3 : Byte) : Decoded (decodeQuarter0 f2 f3 b2 b3) := by
  obtain rfl | rfl | rfl | rfl | rfl | rfl | rfl | rfl := bitVec3_cases f3
  · obtain rfl | rfl | rfl | rfl | rfl | rfl | rfl | rfl := bitVec3_cases f2
    · exact .nop
    · exact .storeSp _
    · exact .unmatchedOp10
    · exact .jump _
    · exact .jumpIf .nz b2
    · exact .jumpIf .z b2
    · exact .jumpIf .nc b2
    · exact .jumpIf .c b2
  · show Decoded (bif isOdd f2 then _ else _)
    cases isOdd f2
    · exact .loadPair _ _
    · exact .addHl _
  · show Decoded (bif isOdd f2 then _ else _)
    cases isOdd f2
    · exact .storeA _
    · exact .loadA _
  · show Decoded (bif isOdd f2 then _ else _)
    cases isOdd f2
    · exact .inc16 _
    · exact .dec16 _
  · exact .inc8 _
  · exact .dec8 _
  · exact .loadImm8 _ _
  · exact .unmatchedColumn7 _

/-- Whatever the latches hold, they decode to an instruction of one of the families (R80). -/
theorem decodeLatches_decoded (op b2 b3 : Byte) : Decoded (decodeLatches op b2 b3) := by
  revert op
  refine forall_opcode fun f1 f2 f3 => ?_
  obtain rfl | rfl | rfl | rfl := bitVec2_cases f1
  · rw [decodeLatches_field1_0]
    exact decodeQuarter0_decoded f2 f3 b2 b3
  · rw [decodeLatches_field1_1]
    by_cases h : R8.ofCode f2 = .atHl ∧ R8.ofCode f3 = .atHl
    · rw [h.1, h.2]
      exact .halt
    · exact .move8 _ _ h
  · rw [decodeLatches_field1_2]
    exact .alu _ _
  · rw [decodeLatches_field1_3, decodeQuarter3]
    cases f2 == 1#3 && f3 == 3#3
    · exact .unimplementedGroup _ _
    · exact .unimplementedCb

end Sys2Proof

namespace Sys2Proof.Machine

section

variable (s : State)

/-! ## Dispatch -/

theorem exec_loadImm8 (d : R8) (n : Byte) : exec (Instr.loadImm8 d n) s = loadImm8 d n s := by
  obtain r | _ := d
  · cases r <;> rfl
  · rfl

theorem exec_inc16 (p : R16) : exec (Instr.inc16 p) s = inc16 p s := by cases p <;> rfl

theorem exec_dec16 (p : R16) : exec (Instr.dec16 p) s = dec16 p s := by cases p <;> rfl

theorem exec_inc8 (o : R8) : exec (Instr.inc8 o) s = inc8 o s := by
  obtain r | _ := o
  · cases r <;> rfl
  · rfl

theorem exec_dec8 (o : R8) : exec (Instr.dec8 o) s = dec8 o s := by
  obtain r | _ := o
  · cases r <;> rfl
  · rfl

theorem exec_jumpRelativeIf (cc : Cond) (e : Byte) : exec (Instr.jumpRelativeIf cc e) s = jumpRelativeIf cc e s := by
  cases cc <;> rfl

end

/-! ## The effect of a handler -/

/-- What the handler of a decoded instruction can make of the state the fetch left: the updates of its family (R104 to R193).
The results of the arithmetic are left open, as what it writes and leaves alone does not depend on them; `exec_effect` ties it
to `exec`. -/
inductive Effect (s : State) : Instr → State → Prop
  | nop : Effect s .nop s
  | halt : Effect s .halt s
  | storeSp (nn : Word) : Effect s (.ldAtU16Sp nn)
      (((s.memWrite nn (loByte s.sp)).memWrite (nn + 1#16) (hiByte s.sp)).skipImmediates 2#16)
  | loadPair (p : R16) (nn : Word) : Effect s (.loadPair p nn) ((s.writeR16 p nn).skipImmediates 2#16)
  | storeA (m : R16mem) : Effect s (.storeA m) ((s.r16memResolved m).memWrite (s.r16memAddress m) s.a)
  | loadA (m : R16mem) (v : Byte) : Effect s (.loadA m) ((s.r16memResolved m).setReg .a v)
  | loadImm8 (d : R8) (n : Byte) : Effect s (.loadImm8 d n) ((s.writeR8 d n).skipImmediates 1#16)
  | move8 (d r : R8) (h : ¬(d = .atHl ∧ r = .atHl)) : Effect s (.move8 d r) (s.writeR8 d (s.readR8 r))
  | addHl (p : R16) (w : Word) (f : Flags) : Effect s (.addHl p) ((s.setHl w).setFlags f)
  | inc16 (p : R16) (w : Word) : Effect s (.inc16 p) (s.writeR16 p w)
  | dec16 (p : R16) (w : Word) : Effect s (.dec16 p) (s.writeR16 p w)
  | inc8 (o : R8) (v : Byte) (f : Flags) : Effect s (.inc8 o) ((s.writeR8 o v).setFlags f)
  | dec8 (o : R8) (v : Byte) (f : Flags) : Effect s (.dec8 o) ((s.writeR8 o v).setFlags f)
  | alu (k : BitVec 3) (o : R8) (v : Byte) (f : Flags) : Effect s (.alu (.ofCode k) o) ((s.setReg .a v).setFlags f)
  | jump (e : Byte) : Effect s (.jrE8 e) (s.setPc (s.jumpBase + sext16 e))
  | jumpIfTaken (cc : Cond) (e : Byte) (h : s.condHolds cc = true) :
      Effect s (.jumpRelativeIf cc e) (s.setPc (s.jumpBase + sext16 e))
  | jumpIfNotTaken (cc : Cond) (e : Byte) (h : s.condHolds cc = false) :
      Effect s (.jumpRelativeIf cc e) (s.skipImmediates 1#16)
  | unmatchedOp10 : Effect s .unmatchedOp10 (raiseFatal .unmatched 0x10#8 s)
  | unmatchedColumn7 (f2 : BitVec 3) :
      Effect s (.unmatchedColumn7 f2) (raiseFatal .unmatched (opcodeOf 0#2 f2 7#3) s)
  | unimplementedGroup (f2 f3 : BitVec 3) :
      Effect s (.unimplementedGroup f2 f3) (raiseFatal .unimplemented (opcodeOf 3#2 f2 f3) s)
  | unimplementedCb : Effect s .unimplementedCb (raiseFatal .unimplemented 0xCB#8 s)

/-- Each operation of the ALU group answers a new `A`, or the old one (CP), and new flags. -/
theorem aluOperation_next {op : AluOp} {o : R8} {s t : State} (h : aluOperation op o s = .next t) :
    t = (s.setReg .a t.a).setFlags t.flags := by
  cases op <;> cases h <;> rfl

variable {i : Instr} {s t : State}

/-- The one inversion of a handler: what it answers is its family's effect. -/
theorem exec_effect (hi : Decoded i) (h : exec i s = .next t) : Effect s i t := by
  cases hi with
  | nop => cases h; exact .nop
  | halt => cases h; exact .halt
  | storeSp nn => cases h; exact .storeSp nn
  | loadPair p nn => rw [exec_loadPair] at h; cases h; exact .loadPair p nn
  | storeA m => rw [exec_storeA] at h; cases h; exact .storeA m
  | loadA m => rw [exec_loadA] at h; cases h; exact .loadA m _
  | loadImm8 d n => rw [exec_loadImm8] at h; cases h; exact .loadImm8 d n
  | move8 d r hne => rw [exec_move8 _ _ _ hne] at h; cases h; exact .move8 d r hne
  | addHl p => rw [exec_addHl] at h; cases h; exact .addHl p _ _
  | inc16 p => rw [exec_inc16] at h; cases h; exact .inc16 p _
  | dec16 p => rw [exec_dec16] at h; cases h; exact .dec16 p _
  | inc8 o => rw [exec_inc8] at h; cases h; exact .inc8 o _ _
  | dec8 o => rw [exec_dec8] at h; cases h; exact .dec8 o _ _
  | alu k o => rw [exec_alu] at h; rw [aluOperation_next h]; exact .alu k o _ _
  | jump e => cases h; exact .jump e
  | jumpIf cc e =>
    rw [exec_jumpRelativeIf] at h
    obtain ⟨hc, rfl⟩ | ⟨hc, rfl⟩ := jumpRelativeIf_cases h
    · exact .jumpIfTaken cc e hc
    · exact .jumpIfNotTaken cc e hc
  | unmatchedOp10 => cases h; exact .unmatchedOp10
  | unmatchedColumn7 f2 => cases h; exact .unmatchedColumn7 f2
  | unimplementedGroup f2 f3 => cases h; exact .unimplementedGroup f2 f3
  | unimplementedCb => cases h; exact .unimplementedCb

/-! ## What an effect leaves alone -/

/-- Only `ADD HL,r16`, `INC r8`, `DEC r8` and the ALU group change a flag (R21). -/
theorem Effect.flags (h : Effect s i t) :
    t.flags = s.flags ∨ (∃ p, i = .addHl p) ∨ (∃ o, i = .inc8 o) ∨ (∃ o, i = .dec8 o) ∨ ∃ k o, i = .alu (.ofCode k) o := by
  cases h with
  | addHl p => exact .inr (.inl ⟨p, rfl⟩)
  | inc8 o => exact .inr (.inr (.inl ⟨o, rfl⟩))
  | dec8 o => exact .inr (.inr (.inr (.inl ⟨o, rfl⟩)))
  | alu k o => exact .inr (.inr (.inr (.inr ⟨k, o, rfl⟩)))
  | _ => left; simp

/-- Only `LD SP,u16`, `INC SP` and `DEC SP` change `sp` (R13). -/
theorem Effect.sp (h : Effect s i t) :
    t.sp = s.sp ∨ (∃ nn, i = .loadPair .sp nn) ∨ i = .inc16 .sp ∨ i = .dec16 .sp := by
  cases h with
  | loadPair p nn =>
    cases p
    case sp => exact .inr (.inl ⟨nn, rfl⟩)
    all_goals left; simp
  | inc16 p =>
    cases p
    case sp => exact .inr (.inr (.inl rfl))
    all_goals left; simp
  | dec16 p =>
    cases p
    case sp => exact .inr (.inr (.inr rfl))
    all_goals left; simp
  | _ => left; simp

/-- An r8 write leaves memory alone, unless its operand is (HL) (R73). -/
theorem writeR8_mem (s : State) (o : R8) (v : Byte) : (s.writeR8 o v).mem = s.mem ∨ o = .atHl := by
  cases o with
  | reg r => exact .inl (setReg_mem s r v)
  | atHl => exact .inr rfl

/-- Only the instructions that make a bus write change memory (R53). -/
theorem Effect.mem (h : Effect s i t) :
    t.mem = s.mem ∨ (∃ nn, i = .ldAtU16Sp nn) ∨ (∃ m, i = .storeA m) ∨ i = .inc8 .atHl ∨ i = .dec8 .atHl ∨
      (∃ n, i = .loadImm8 .atHl n) ∨ ∃ r, i = .move8 .atHl (.reg r) := by
  cases h with
  | storeSp nn => exact .inr (.inl ⟨nn, rfl⟩)
  | storeA m => exact .inr (.inr (.inl ⟨m, rfl⟩))
  | inc8 o v =>
    obtain hm | rfl := writeR8_mem s o v
    · exact .inl hm
    · exact .inr (.inr (.inr (.inl rfl)))
  | dec8 o v =>
    obtain hm | rfl := writeR8_mem s o v
    · exact .inl hm
    · exact .inr (.inr (.inr (.inr (.inl rfl))))
  | loadImm8 d n =>
    obtain hm | rfl := writeR8_mem s d n
    · exact .inl hm
    · exact .inr (.inr (.inr (.inr (.inr (.inl ⟨n, rfl⟩)))))
  | move8 d r hne =>
    obtain hm | rfl := writeR8_mem s d (s.readR8 r)
    · exact .inl hm
    · cases r with
      | reg r => exact .inr (.inr (.inr (.inr (.inr (.inr ⟨r, rfl⟩)))))
      | atHl => exact absurd ⟨rfl, rfl⟩ hne
  | _ => left; simp

/-- Every instruction that is no relative jump ends past its bytes (R79); a fatal opcode counts one byte (R72). -/
theorem Effect.pc (h : Effect s i t) :
    t.pc = s.a0 + BitVec.ofNat 16 i.length ∨ (∃ e, i = .jrE8 e) ∨ ∃ cc e, i = .jumpRelativeIf cc e := by
  cases h with
  | jump e => exact .inr (.inl ⟨e, rfl⟩)
  | jumpIfTaken cc e | jumpIfNotTaken cc e => exact .inr (.inr ⟨cc, e, rfl⟩)
  | storeSp nn => left; simp only [skipImmediates_pc, memWrite_pc]; exact pc_add_eq_a0_add s 2#16
  | loadPair p nn => left; rw [Instr.length, encode_loadPair]; simpa using pc_add_eq_a0_add s 2#16
  | loadImm8 d n => left; rw [Instr.length, encode_loadImm8]; simpa using pc_add_eq_a0_add s 1#16
  | storeA m => left; rw [Instr.length, encode_storeA]; simpa using pc_eq_a0_add_one s
  | loadA m => left; rw [Instr.length, encode_loadA]; simpa using pc_eq_a0_add_one s
  | move8 d r => left; rw [Instr.length, encode_move8]; simpa using pc_eq_a0_add_one s
  | addHl p => left; rw [Instr.length, encode_addHl]; simpa using pc_eq_a0_add_one s
  | inc16 p => left; rw [Instr.length, encode_inc16]; simpa using pc_eq_a0_add_one s
  | dec16 p => left; rw [Instr.length, encode_dec16]; simpa using pc_eq_a0_add_one s
  | inc8 o => left; rw [Instr.length, encode_inc8]; simpa using pc_eq_a0_add_one s
  | dec8 o => left; rw [Instr.length, encode_dec8]; simpa using pc_eq_a0_add_one s
  | alu k o => left; rw [Instr.length, encode_alu]; simpa using pc_eq_a0_add_one s
  | nop | halt | unmatchedOp10 | unmatchedColumn7 | unimplementedGroup | unimplementedCb => exact .inl (pc_eq_a0_add_one s)

/-- A handler keeps the status, or takes the fatal error of its opcode, and then does nothing else (R206). -/
theorem Effect.status (h : Effect s i t) :
    t.status = s.status ∨ ∃ k op, i.encode = [op] ∧ t = raiseFatal k op s ∧
      ((k = .unmatched ∧ isUnmatched op) ∨ (k = .unimplemented ∧ isUnimplemented op)) := by
  cases h with
  | unmatchedOp10 => exact .inr ⟨_, _, rfl, rfl, .inl ⟨rfl, isUnmatched_op10⟩⟩
  | unmatchedColumn7 f2 => exact .inr ⟨_, _, rfl, rfl, .inl ⟨rfl, isUnmatched_column7 f2⟩⟩
  | unimplementedGroup f2 f3 => exact .inr ⟨_, _, rfl, rfl, .inr ⟨rfl, isUnimplemented_quarter3 f2 f3⟩⟩
  | unimplementedCb => exact .inr ⟨_, _, rfl, rfl, .inr ⟨rfl, isUnimplemented_quarter3 1#3 3#3⟩⟩
  | _ => left; simp

end Sys2Proof.Machine
end

section
/-! PROOFS. The relative jumps (spec/44_jumps.md): the signed offset, the base, and the two statements. -/

namespace Sys2Proof.Machine

/-- The offset by arithmetic: a byte from 128 on stands for itself minus 256 (R78). -/
theorem sext16_eq_ofNat (e : Byte) :
    sext16 e = if e.toNat < 128 then BitVec.ofNat 16 e.toNat else BitVec.ofNat 16 (e.toNat + 0xFF00) := by
  rw [sext16_eq, BitVec.ofNat_add, BitVec.ofNat_toNat]

section

variable {s : State}

theorem jumpBase_two (h : s.config.jrBase = .two) : s.jumpBase = s.a0 + 2#16 := by rw [State.jumpBase, h]; rfl

theorem jumpBase_one (h : s.config.jrBase = .one) : s.jumpBase = s.a0 + 1#16 := by rw [State.jumpBase, h]; rfl

theorem jumpRelativeIf_taken {cc : Cond} (h : s.condHolds cc = true) (e : Byte) :
    jumpRelativeIf cc e s = .next (s.setPc (s.jumpBase + sext16 e)) := by rw [jumpRelativeIf, h]; rfl

/-- A jump not taken passes its offset byte, whatever `JR_BASE` is (R181). -/
theorem jumpRelativeIf_not_taken {cc : Cond} (h : s.condHolds cc = false) (e : Byte) :
    jumpRelativeIf cc e s = .next (s.setPc (s.a0 + 2#16)) := by
  rw [jumpRelativeIf, h, State.skipImmediates, pc_add_eq_a0_add]; rfl

end

/-- Settles O37: `jumpRelative` with the two values of the base. -/
theorem relativeJump : Obligations.RelativeJump := by
  intro e s
  dsimp only
  rw [← sext16_eq_ofNat]
  have hexec : exec (.jrE8 e) s = .next (s.setPc (s.jumpBase + sext16 e)) := rfl
  exact ⟨rfl, fun h => by rw [hexec, jumpBase_two h]; rfl, fun h => by rw [hexec, jumpBase_one h]; rfl⟩

/-- Settles O38: the statement's condition is `condHolds`, and the two branches are `jumpRelativeIf_taken` and
`jumpRelativeIf_not_taken`. -/
theorem conditionalRelativeJump : Obligations.ConditionalRelativeJump := by
  intro cc e s offset taken
  have htaken : taken ↔ s.condHolds cc = true := by cases cc <;> simp [taken, State.condHolds]
  have hoffset : offset = sext16 e := (sext16_eq_ofNat e).symm
  rw [hoffset, htaken, exec_jumpRelativeIf]
  refine ⟨encode_jumpRelativeIf cc e, fun h hb => ?_, fun h hb => ?_, fun h => ?_⟩
  · rw [jumpRelativeIf_taken h, jumpBase_two hb]; rfl
  · rw [jumpRelativeIf_taken h, jumpBase_one hb]; rfl
  · rw [jumpRelativeIf_not_taken (by simpa using h)]; rfl

end Sys2Proof.Machine
end

section
/-! PROOFS. The step (spec/40_fetch_decode.md) and the fatal opcodes (spec/45_unmatched_and_stack.md): from a ready state, the
step by the instruction its bytes decode to. -/

namespace Sys2Proof.Machine

/-- Settles O19: the fetch, field by field as R101 has it. -/
theorem fetchLatchesThreeBytes : Obligations.FetchLatchesThreeBytes := fun _ => rfl

/-- A step from a ready state, where the handler's answer is known. -/
theorem step_of_exec {s : State} {i : Instr} {u : State} (hr : s.ready)
    (hi : decodeLatches (s.memRead s.pc) (s.memRead (s.pc + 1#16)) (s.memRead (s.pc + 2#16)) = i)
    (hu : exec i s.fetch = .next u) : step s = .next (u.setPhase .awaitFetch) := by
  rw [step_ready hr, hi, hu]
  rfl

/-- Settles O20: the three latched bytes decode to what the latches decode to (`decode_latches`). -/
theorem stepRunsDecodedInstruction : Obligations.StepRunsDecodedInstruction := by
  intro s i rest hr hdec
  obtain ⟨rest', hlatches⟩ := decode_latches (s.memRead s.pc) (s.memRead (s.pc + 1#16)) (s.memRead (s.pc + 2#16))
  cases hdec.symm.trans hlatches
  rw [step_ready hr]
  cases exec _ s.fetch <;> rfl

/-- Settles O21: no handler stops (`exec_next`). -/
theorem readyStepCompletes : Obligations.ReadyStepCompletes := by
  intro s hr
  obtain ⟨u, hu⟩ := exec_next _ s.fetch
  exact ⟨_, step_of_exec hr rfl hu, rfl⟩

/-! ## Fatal opcodes -/

theorem opcodeOf_column7 (f2 : BitVec 3) : opcodeOf 0#2 f2 7#3 = BitVec.ofNat 8 (8 * f2.toNat + 7) := by
  rw [opcodeOf_eq_ofNat]
  congr 1
  simp

theorem opcodeOf_quarter3 (f2 f3 : BitVec 3) : opcodeOf 3#2 f2 f3 = BitVec.ofNat 8 (0xC0 + 8 * f2.toNat + f3.toNat) :=
  opcodeOf_eq_ofNat 3#2 f2 f3

/-- Settles O39: each handler is `raiseFatal` on its opcode, which is its encoding. -/
theorem fatalOpcodesEnterFaulted : Obligations.FatalOpcodesEnterFaulted := by
  intro f2 f3 s
  rw [← opcodeOf_column7, ← opcodeOf_quarter3]
  exact ⟨rfl, rfl, rfl, rfl, rfl, rfl, rfl, rfl, pc_eq_a0_add_one s⟩

/-- A step whose handler takes a fatal error on the opcode `op`, which the encoding shows to be the fetched one. -/
theorem step_of_raiseFatal {s : State} {i : Instr} {k : FatalKind} {op : Byte} (hr : s.ready)
    (hi : decodeLatches (s.memRead s.pc) (s.memRead (s.pc + 1#16)) (s.memRead (s.pc + 2#16)) = i)
    (henc : i.encode = [op]) (hu : exec i s.fetch = .next (raiseFatal k op s.fetch)) :
    step s = .next (raiseFatal k (s.memRead s.pc) s.fetch) := by
  rw [step_of_exec hr hi hu, eq_of_decodeLatches ((congrArg Instr.encode hi).trans henc)]
  rfl

/-- Settles O40: which instruction a fatal opcode decodes to is `isUnmatched_iff` and `isUnimplemented_iff`. -/
theorem fatalStepReportsItsOpcode : Obligations.FatalStepReportsItsOpcode := by
  intro s hr
  constructor
  · intro hop
    obtain hi | ⟨f2, hi⟩ := (isUnmatched_iff _ (s.memRead (s.pc + 1#16)) (s.memRead (s.pc + 2#16))).mp hop <;>
      exact step_of_raiseFatal hr hi rfl rfl
  · intro hop
    obtain hi | ⟨f2, f3, hi⟩ := (isUnimplemented_iff _ (s.memRead (s.pc + 1#16)) (s.memRead (s.pc + 2#16))).mp hop <;>
      exact step_of_raiseFatal hr hi rfl rfl

/-! ## Immediates and stores -/

/-- A pair of bytes is the word of R9. -/
theorem wordOf_eq_ofNat (x y : Byte) : wordOf x y = BitVec.ofNat 16 (x.toNat * 256 + y.toNat) := by
  rw [← wordOf_toNat, BitVec.ofNat_toNat, BitVec.setWidth_eq]

/-- The opcode of `LD r16,u16` decodes to it, with `b2` as the low byte (R50, R78). -/
theorem decodeLatches_loadPair (p : R16) (b2 b3 : Byte) :
    decodeLatches (BitVec.ofNat 8 (0x01 + 16 * p.code)) b2 b3 = .loadPair p (wordOf b3 b2) := by cases p <;> rfl

/-- The opcode of `LD (u16),SP` decodes to it, with `b2` as the low byte (R50, R78). -/
theorem decodeLatches_storeSp (b2 b3 : Byte) : decodeLatches 0x08#8 b2 b3 = .ldAtU16Sp (wordOf b3 b2) := rfl

/-- Settles O23: both instructions get `wordOf` of the second and the first immediate byte, and a pair reads back the word
written to it. -/
theorem immediateWordIsLittleEndian : Obligations.ImmediateWordIsLittleEndian := by
  intro s hr
  refine ⟨fun p hop => ?_, fun hop => ?_⟩
  · have hi := decodeLatches_loadPair p (s.memRead (s.pc + 1#16)) (s.memRead (s.pc + 2#16))
    rw [← hop] at hi
    refine ⟨_, step_of_exec hr hi (exec_loadPair s.fetch p _), ?_, ?_⟩
    · rw [← wordOf_toNat]
      exact congrArg BitVec.toNat (readR16_writeR16_same s.fetch _ p)
    · simp [BitVec.add_assoc]
  · refine ⟨wordOf (s.memRead (s.pc + 2#16)) (s.memRead (s.pc + 1#16)), _, wordOf_toNat _ _, ?_, rfl, ?_⟩
    · rw [hop]; rfl
    · exact step_of_exec hr (hop ▸ decodeLatches_storeSp _ _) rfl

/-- Settles O22: reading after a write is `memRead_memWrite`, and after the two writes of `LD (u16),SP`
`memRead_memWrite_memWrite_succ`, whether or not they fall on the operand bytes. -/
theorem storesAreSeenByLaterFetches : Obligations.StoresAreSeenByLaterFetches := by
  constructor
  · intro s x v hwf hx
    exact (memRead_memWrite s hwf x x v).trans (if_pos ⟨rfl, hx⟩)
  · intro s hwf hr hop
    dsimp only
    rw [← wordOf_eq_ofNat, ← hiByte_eq, ← loByte_eq]
    refine ⟨_, step_of_exec hr (hop ▸ decodeLatches_storeSp _ _) rfl, fun x => ?_⟩
    exact memRead_memWrite_memWrite_succ s.fetch hwf _ x _ _

end Sys2Proof.Machine
end

section
/-! PROOFS. Memory as a whole, creation and the host's commands (spec/20_memory.md, spec/70_reset_and_hazards.md). -/

namespace Sys2Proof.Machine

/-! ## Memory -/

/-- Settles O9: neither range is stored (`isStored_iff`), and such a write is discarded. -/
theorem stubAndGapWritesDiscarded : Obligations.StubAndGapWritesDiscarded := by
  refine ⟨fun s addr v h => memWrite_of_not_stored s addr v ?_, rfl⟩
  rw [← Bool.not_eq_true, isStored_iff]
  simp only [BitVec.le_def, BitVec.toNat_ofNat] at h ⊢
  omega

/-- An address a canonical memory cannot list reads as unlisted. -/
theorem byteAt_of_not_stored {m : Memory} (h : Memory.wf m) {x : Nat}
    (hx : ¬(x < 0x10000 ∧ isStored (BitVec.ofNat 16 x) = true)) : Memory.byteAt m x = Memory.unlisted := by
  induction m with
  | nil => rfl
  | cons p rest ih =>
    have hp := h.2 p List.mem_cons_self
    have hne : p.1 ≠ x := fun e => hx ⟨e ▸ hp.1, e ▸ hp.2.1⟩
    rw [Memory.byteAt, if_neg hne]
    exact ih ⟨(List.pairwise_cons.mp h.1).2, fun q hq => h.2 q (List.mem_cons_of_mem p hq)⟩

/-- Every stored address is a byte of one of the five stores (R41). -/
theorem exists_store_of_stored {x : Nat} (hlt : x < 0x10000) (hx : isStored (BitVec.ofNat 16 x) = true) :
    ∃ (st : Store) (i : Nat), i < st.size ∧ x = st.base + i := by
  have hr : x ≤ 0x7FFF ∨ 0xA000 ≤ x ∧ x ≤ 0xDFFF := by
    simpa [BitVec.le_def, Nat.mod_eq_of_lt hlt] using (isStored_iff _).mp hx
  have hcases : x < 0x4000 ∨ (0x4000 ≤ x ∧ x < 0x8000) ∨ (0xA000 ≤ x ∧ x < 0xC000) ∨ (0xC000 ≤ x ∧ x < 0xD000) ∨
      (0xD000 ≤ x ∧ x < 0xE000) := by omega
  obtain h | h | h | h | h := hcases
  · exact ⟨.rom0, x, h, (Nat.zero_add x).symm⟩
  · exact ⟨.rom1, x - 0x4000, Nat.sub_lt_left_of_lt_add h.1 h.2, (Nat.add_sub_cancel' h.1).symm⟩
  · exact ⟨.xram, x - 0xA000, Nat.sub_lt_left_of_lt_add h.1 h.2, (Nat.add_sub_cancel' h.1).symm⟩
  · exact ⟨.wram0, x - 0xC000, Nat.sub_lt_left_of_lt_add h.1 h.2, (Nat.add_sub_cancel' h.1).symm⟩
  · exact ⟨.wram1, x - 0xD000, Nat.sub_lt_left_of_lt_add h.1 h.2, (Nat.add_sub_cancel' h.1).symm⟩

/-- Settles O10: a canonical memory is determined by its bytes (`memory_ext`); those at stored addresses are the stores', and
the others are not listed. -/
theorem equalReadsMeanEqualMemory : Obligations.EqualReadsMeanEqualMemory := by
  intro s t hs ht hreads
  refine memory_ext s.mem t.mem hs ht fun x => ?_
  by_cases hx : x < 0x10000 ∧ isStored (BitVec.ofNat 16 x) = true
  · obtain ⟨st, i, hi, rfl⟩ := exists_store_of_stored hx.1 hx.2
    exact hreads st i hi
  · rw [byteAt_of_not_stored hs hx, byteAt_of_not_stored ht hx]

/-! ## The r8 table -/

/-- Settles O12: the seven registers by the table, and code 6 through `HL` by arithmetic. -/
theorem r8TableReadsAndWrites : Obligations.R8TableReadsAndWrites := by
  intro s v
  rw [← wordOf_eq_ofNat]
  exact ⟨rfl, rfl⟩

/-! ## Creation -/

section

variable (cfg : Config) (ram : RamInit)

theorem storeByte_create_rom0 {i : Nat} (h : i < 16384) : (State.create cfg ram).storeByte .rom0 i = 0x00#8 := by
  rw [storeByte_eq _ .rom0 i i (Nat.zero_add i), byteAt_create, dif_neg (by omega), dif_neg (by omega), dif_neg (by omega)]

theorem storeByte_create_rom1 {i : Nat} (h : i < 16384) : (State.create cfg ram).storeByte .rom1 i = 0x00#8 := by
  rw [storeByte_eq _ .rom1 i (0x4000 + i) rfl, byteAt_create, dif_neg (by omega), dif_neg (by omega), dif_neg (by omega)]

theorem storeByte_create_xram {i : Nat} (h : i < 8192) : (State.create cfg ram).storeByte .xram i = ram.xram[i] := by
  rw [storeByte_eq _ .xram i (0xA000 + i) rfl, byteAt_create, dif_neg (by omega), dif_neg (by omega), dif_pos (by omega)]
  simp only [Nat.add_sub_cancel_left]

theorem storeByte_create_wram0 {i : Nat} (h : i < 4096) : (State.create cfg ram).storeByte .wram0 i = ram.wram0[i] := by
  rw [storeByte_eq _ .wram0 i (0xC000 + i) rfl, byteAt_create, dif_neg (by omega), dif_pos (by omega)]
  simp only [Nat.add_sub_cancel_left]

theorem storeByte_create_wram1 {i : Nat} (h : i < 4096) : (State.create cfg ram).storeByte .wram1 i = ram.wram1[i] := by
  rw [storeByte_eq _ .wram1 i (0xD000 + i) rfl, byteAt_create, dif_pos (by omega)]
  simp only [Nat.add_sub_cancel_left]

/-- CREATE sets no field but the memory and the parameters otherwise than reset does (R230). -/
theorem create_eq : State.create cfg ram = { State.reset with mem := (State.create cfg ram).mem, config := cfg } := rfl

/-- Bytes equal to what an unlisted address reads as are not listed. -/
theorem putBytes_replicate_unlisted (base n : Nat) : Memory.putBytes [] base (List.replicate n Memory.unlisted) = [] := by
  induction n generalizing base with
  | zero => rfl
  | succ n ih => exact ih (base + 1)

/-- The default `RAM_INIT` lists no byte (R234). -/
theorem create_zero_mem : (State.create cfg RamInit.zero).mem = [] := by
  have hzero (n : Nat) : (Vector.replicate n 0x00#8).toList = List.replicate n Memory.unlisted := Vector.toList_replicate
  rw [State.create, RamInit.zero]
  simp only [hzero, putBytes_replicate_unlisted]

end

/-- Settles O13: the fields by evaluation, the stores by `byteAt_create`. -/
theorem creationState : Obligations.CreationState := fun cfg ram =>
  ⟨_, rfl, create_wf cfg ram, fun _ h => ⟨storeByte_create_rom0 cfg ram h, storeByte_create_rom1 cfg ram h⟩,
    fun _ => storeByte_create_xram cfg ram, fun _ => storeByte_create_wram0 cfg ram, fun _ => storeByte_create_wram1 cfg ram⟩

/-- Settles O14: `create_eq`, with no byte listed. -/
theorem resetIsDefaultCreation : Obligations.ResetIsDefaultCreation := by
  unfold Obligations.ResetIsDefaultCreation
  rw [create_eq, create_zero_mem]
  rfl

/-! ## The ROM load -/

section

variable {s : State} {image : List Byte}

/-- The two ROM banks after a load (R231). -/
theorem storeByte_withImage_rom (h : Memory.wf s.mem) (hl : 32768 ≤ image.length) {i : Nat} (hi : i < 16384) :
    (s.withImage image).storeByte .rom0 i = image[i] ∧ (s.withImage image).storeByte .rom1 i = image[16384 + i] := by
  constructor
  · rw [storeByte_eq _ .rom0 i i (Nat.zero_add i), byteAt_withImage s h image hl, dif_pos (by unfold imageLength; omega)]
  · rw [storeByte_eq _ .rom1 i (16384 + i) rfl, byteAt_withImage s h image hl, dif_pos (by unfold imageLength; omega)]

/-- The RAM stores after a load (R231). -/
theorem storeByte_withImage_ram (h : Memory.wf s.mem) (hl : 32768 ≤ image.length) {st : Store} (h0 : st ≠ .rom0)
    (h1 : st ≠ .rom1) (i : Nat) : (s.withImage image).storeByte st i = s.storeByte st i := by
  have hbase : imageLength ≤ st.base := by
    cases st with
    | rom0 => exact absurd rfl h0
    | rom1 => exact absurd rfl h1
    | xram | wram0 | wram1 => decide
  rw [State.storeByte, byteAt_withImage s h image hl, dif_neg (by omega), State.storeByte]

theorem loadRom_legal (hrun : s.status = .running) (hph : s.phase = .awaitFetch) (hrom : s.romLoaded = false) :
    s.loadRom image = if image.length < imageLength then .fault .romLoadError else .next (s.withImage image) := by
  rw [State.loadRom, hrun, hph, hrom]
  rfl

theorem loadRom_of_short (hrun : s.status = .running) (hph : s.phase = .awaitFetch) (hrom : s.romLoaded = false)
    (hl : image.length < imageLength) : s.loadRom image = .fault .romLoadError := by
  rw [loadRom_legal hrun hph hrom, if_pos hl]

theorem loadRom_of_long (hrun : s.status = .running) (hph : s.phase = .awaitFetch) (hrom : s.romLoaded = false)
    (hl : imageLength ≤ image.length) : s.loadRom image = .next (s.withImage image) := by
  rw [loadRom_legal hrun hph hrom, if_neg (Nat.not_lt.mpr hl)]

/-- LOAD_ROM is refused where it is not legal (R241). -/
theorem loadRom_refused (h : ¬(s.status = .running ∧ s.phase = .awaitFetch ∧ s.romLoaded = false)) :
    ∃ r, s.loadRom image = .refused r := by
  unfold State.loadRom
  cases h1 : s.status with
  | faulted => exact ⟨_, rfl⟩
  | running =>
    cases h2 : s.phase with
    | awaitExecute => exact ⟨_, rfl⟩
    | awaitFetch =>
      cases h3 : s.romLoaded with
      | true => exact ⟨_, rfl⟩
      | false => exact absurd ⟨h1, h2, h3⟩ h

/-- LOAD_ROM answers a next state only from a running core, and then the one with the image (R231, R241). -/
theorem loadRom_next {t : State} (h : s.loadRom image = .next t) : s.status = .running ∧ t = s.withImage image := by
  by_cases hl : s.status = .running ∧ s.phase = .awaitFetch ∧ s.romLoaded = false
  · obtain ⟨hrun, hph, hrom⟩ := hl
    rw [loadRom_legal hrun hph hrom] at h
    split at h <;> cases h
    exact ⟨hrun, rfl⟩
  · obtain ⟨r, hr⟩ := loadRom_refused (image := image) hl
    cases h.symm.trans hr

end

/-- Settles O15: `withImage`, by the stores it fills and the ones it leaves alone. -/
theorem loadRomFillsTheRomBanks : Obligations.LoadRomFillsTheRomBanks := fun image s hwf hrun hph hrom =>
  ⟨loadRom_of_short hrun hph hrom, fun hl => ⟨s.withImage image, loadRom_of_long hrun hph hrom hl,
    fun _ => storeByte_withImage_rom hwf hl, fun _ i _ h0 h1 => storeByte_withImage_ram hwf hl h0 h1 i, rfl,
    withImage_wf s hwf image⟩⟩

/-- Settles O16: the load of O15 on the created state, whose RAM stores it leaves alone. -/
theorem launchState : Obligations.LaunchState := by
  intro cfg ram image hl
  have hwf := create_wf cfg ram
  have hram (st : Store) (h0 : st ≠ .rom0) (h1 : st ≠ .rom1) (i : Nat) := storeByte_withImage_ram hwf hl h0 h1 i
  refine ⟨_, loadRom_of_long rfl rfl rfl hl, ⟨rfl, rfl, rfl⟩, rfl, rfl, rfl, rfl, rfl,
    fun _ => storeByte_withImage_rom hwf hl, fun i h => ?_, fun i h => ⟨?_, ?_⟩⟩
  · exact (hram .xram nofun nofun i).trans (storeByte_create_xram cfg ram h)
  · exact (hram .wram0 nofun nofun i).trans (storeByte_create_wram0 cfg ram h)
  · exact (hram .wram1 nofun nofun i).trans (storeByte_create_wram1 cfg ram h)

/-! ## Commands out of order -/

section

variable {s : State}

/-- FETCH is refused where it is not legal (R241). -/
theorem fetchCommand_not_ready (h : ¬s.ready) : ∃ r, s.fetchCommand = .refused r := by
  unfold State.fetchCommand
  cases h1 : s.status with
  | faulted => exact ⟨_, rfl⟩
  | running =>
    cases h2 : s.phase with
    | awaitExecute => exact ⟨_, rfl⟩
    | awaitFetch =>
      cases h3 : s.romLoaded with
      | false => exact ⟨_, rfl⟩
      | true => exact absurd ⟨h1, h2, h3⟩ h

/-- EXECUTE is refused where it is not legal (R241). -/
theorem executeCommand_refused (h : ¬(s.status = .running ∧ s.phase = .awaitExecute)) :
    ∃ r, s.executeCommand = .refused r := by
  unfold State.executeCommand
  cases h1 : s.status with
  | faulted => exact ⟨_, rfl⟩
  | running =>
    cases h2 : s.phase with
    | awaitFetch => exact ⟨_, rfl⟩
    | awaitExecute => exact absurd ⟨h1, h2⟩ h

/-- EXECUTE, where it is legal, runs a handler, which answers a next state. -/
theorem executeCommand_legal (hrun : s.status = .running) (hph : s.phase = .awaitExecute) :
    ∃ t, s.executeCommand = .next t := by
  obtain ⟨u, hu⟩ := exec_next (decodeLatches s.ir s.b2 s.b3) s
  exact ⟨u.setPhase .awaitFetch, by rw [State.executeCommand, hrun, hph, State.execute, hu]; rfl⟩

/-- A step is refused where its FETCH is (R241). -/
theorem step_not_ready (h : ¬s.ready) : ∃ r, step s = .refused r := by
  obtain ⟨r, hr⟩ := fetchCommand_not_ready h
  exact ⟨r, by rw [step, hr]; rfl⟩

end

/-- A command is refused exactly where it is not legal, if it is refused there and answers something else where it is. -/
theorem refused_iff {x : Result} {legal : Prop} (h : legal → ∀ r, x ≠ .refused r) (h' : ¬legal → ∃ r, x = .refused r) :
    (∃ r, x = .refused r) ↔ ¬legal :=
  ⟨fun ⟨r, hr⟩ hl => h hl r hr, h'⟩

/-- Settles O17: each command by `refused_iff`; a step that is not refused answers a next state (`readyStepCompletes`). -/
theorem commandsOutOfOrderRefused : Obligations.CommandsOutOfOrderRefused := by
  intro s image
  have hstep (hr : s.ready) : ∃ t, step s = .next t := (readyStepCompletes s hr).imp fun _ h => h.1
  refine ⟨refused_iff (fun hr r => ?_) fetchCommand_not_ready, fetchCommand_ready,
    refused_iff (fun hl r => ?_) executeCommand_refused, refused_iff (fun hl r => ?_) loadRom_refused,
    refused_iff (fun hr r => ?_) step_not_ready, fun f hf => ?_⟩
  · rw [fetchCommand_ready hr]
    nofun
  · obtain ⟨hrun, hph⟩ := hl
    obtain ⟨t, ht⟩ := executeCommand_legal hrun hph
    rw [ht]
    nofun
  · obtain ⟨hrun, hph, hrom⟩ := hl
    rw [loadRom_legal hrun hph hrom]
    split <;> nofun
  · obtain ⟨t, ht⟩ := hstep hr
    rw [ht]
    nofun
  · by_cases hr : s.ready
    · obtain ⟨t, ht⟩ := hstep hr
      cases hf.symm.trans ht
    · obtain ⟨r, ht⟩ := step_not_ready hr
      cases hf.symm.trans ht

/-- Settles O18: every command asks the status first (log entry 15). -/
theorem faultedIsTerminal : Obligations.FaultedIsTerminal := by
  intro s k op image h
  have hfetch : s.fetchCommand = .refused .coreFaulted := by rw [State.fetchCommand, h]
  exact ⟨hfetch, by rw [State.executeCommand, h], by rw [State.loadRom, h], by rw [step, hfetch]; rfl⟩

end Sys2Proof.Machine
end

section
/-! PROOFS. Whole-machine rules about a step: what it changes, by its opcode (R13, R21, R53, R79), the fatal opcodes (R201 to
R207), and the invariant. -/

namespace Sys2Proof.Machine

/-- The fetch keeps the address of the opcode byte, which is the old `pc` (R101). -/
@[simp] theorem fetch_a0 (s : State) : s.fetch.a0 = s.pc := BitVec.add_sub_cancel s.pc 1#16

/-- The one inversion of a step: the opcode and the immediates it takes are the encoding of an instruction, whose effect on
the fetched state is the answer, but for the phase. -/
theorem step_effect {s t : State} (h : step s = .next t) : s.ready ∧ ∃ i u,
    i.encode = s.memRead s.pc ::
      [s.memRead (s.pc + 1#16), s.memRead (s.pc + 2#16)].take (immediateCount (s.memRead s.pc)) ∧
    Effect s.fetch i u ∧ t = u.setPhase .awaitFetch := by
  obtain ⟨hr, u, hu, rfl⟩ := step_next h
  exact ⟨hr, _, u, (decodeLatches_encode _ _ _).2, exec_effect (decodeLatches_decoded _ _ _) hu, rfl⟩

/-- A step keeps the status, or takes the fatal error of its opcode and changes nothing else the fetch left (R206, R207). -/
theorem step_status {s t : State} (h : step s = .next t) :
    t.status = .running ∨ ∃ k, t = raiseFatal k (s.memRead s.pc) s.fetch ∧
      ((k = .unmatched ∧ isUnmatched (s.memRead s.pc)) ∨ (k = .unimplemented ∧ isUnimplemented (s.memRead s.pc))) := by
  obtain ⟨⟨hrun, -, -⟩, i, u, henc, he, rfl⟩ := step_effect h
  obtain hu | ⟨k, op, hop, rfl, hk⟩ := he.status
  · exact .inl (hu.trans hrun)
  · cases opcode_eq henc hop
    exact .inr ⟨k, rfl, hk⟩

/-- Settles O41: `step_status`; the other case leaves the status running. -/
theorem onlyFatalOpcodesFault : Obligations.OnlyFatalOpcodesFault := by
  intro s t k op h hs
  obtain hrun | ⟨k', rfl, hk⟩ := step_status h
  · rw [hrun] at hs
    cases hs
  · cases hs
    obtain ⟨⟨-, hphase, -⟩, -⟩ := step_next h
    exact ⟨rfl, hk, by rw [hphase]; rfl⟩

/-- Settles O42: `Effect.flags`; the opcode of each family that writes flags is read off its encoding. -/
theorem onlyArithmeticChangesFlags : Obligations.OnlyArithmeticChangesFlags := by
  intro s t h hne
  obtain ⟨-, i, u, henc, he, rfl⟩ := step_effect h
  obtain hf | ⟨p, rfl⟩ | ⟨o, rfl⟩ | ⟨o, rfl⟩ | ⟨k, o, rfl⟩ := he.flags
  · exact absurd hf hne
  · rw [opcode_eq henc (encode_addHl p)]
    cases p <;> decide
  · rw [opcode_eq henc (encode_inc8 o)]
    have := R8.code_lt o
    simp only [BitVec.toNat_ofNat]
    omega
  · rw [opcode_eq henc (encode_dec8 o)]
    have := R8.code_lt o
    simp only [BitVec.toNat_ofNat]
    omega
  · rw [opcode_eq henc (encode_alu k o)]
    have := R8.code_lt o
    have := k.isLt
    simp only [BitVec.toNat_ofNat]
    omega

/-- Settles O43: `Effect.sp`. -/
theorem onlyThreeInstructionsChangeSp : Obligations.OnlyThreeInstructionsChangeSp := by
  intro s t h hne
  obtain ⟨-, i, u, henc, he, rfl⟩ := step_effect h
  obtain hsp | ⟨nn, rfl⟩ | rfl | rfl := he.sp
  · exact absurd hsp hne
  · rw [opcode_eq henc (encode_loadPair .sp nn)]
    decide
  · rw [opcode_eq henc (encode_inc16 .sp)]
    decide
  · rw [opcode_eq henc (encode_dec16 .sp)]
    decide

/-- Settles O44: `Effect.mem`. -/
theorem onlyStoresChangeMemory : Obligations.OnlyStoresChangeMemory := by
  intro s t h hne
  obtain ⟨-, i, u, henc, he, rfl⟩ := step_effect h
  obtain hm | ⟨nn, rfl⟩ | ⟨m, rfl⟩ | rfl | rfl | ⟨n, rfl⟩ | ⟨r, rfl⟩ := he.mem
  · exact absurd hm hne
  · rw [opcode_eq henc rfl]
    decide
  · rw [opcode_eq henc (encode_storeA m)]
    cases m <;> decide
  · rw [opcode_eq henc (encode_inc8 .atHl)]
    decide
  · rw [opcode_eq henc (encode_dec8 .atHl)]
    decide
  · rw [opcode_eq henc (encode_loadImm8 .atHl n)]
    decide
  · rw [opcode_eq henc (encode_move8 .atHl (.reg r))]
    cases r <;> decide

/-! ## The invariant -/

/-- A running core with canonical memory meets the invariant. -/
theorem inv_of_running {s : State} (hwf : Memory.wf s.mem) (hrun : s.status = .running) : s.Inv where
  memory := hwf
  status := by rw [hrun]; trivial
  latched k op hs := by rw [hrun] at hs; cases hs

/-- A step keeps the canonical form of memory. -/
theorem step_wf {s t : State} (h : step s = .next t) (hwf : Memory.wf s.mem) : Memory.wf t.mem := by
  obtain ⟨-, u, hu, rfl⟩ := step_next h
  exact (exec_keeps hu).wf hwf

/-- Settles O48: memory is `step_wf`; the status is running, or the fatal error `step_status` gives, on the opcode the fetch
has latched. -/
theorem stepKeepsInvariant : Obligations.StepKeepsInvariant := by
  intro s t hs h
  obtain hrun | ⟨k, rfl, hk⟩ := step_status h
  · exact inv_of_running (step_wf h hs.memory) hrun
  · refine ⟨hs.memory, ?_, ?_⟩
    · obtain ⟨rfl, hop⟩ | ⟨rfl, hop⟩ := hk <;> exact hop
    · rintro _ _ ⟨⟩
      exact ⟨rfl, rfl⟩

/-- Settles O47: reset, CREATE and LOAD_ROM leave canonical memory and a running core. -/
theorem invariantHoldsAtStart : Obligations.InvariantHoldsAtStart := by
  refine ⟨inv_of_running reset_wf rfl, fun cfg ram => inv_of_running (create_wf cfg ram) rfl, fun s t image hs h => ?_⟩
  obtain ⟨hrun, rfl⟩ := loadRom_next h
  exact inv_of_running (withImage_wf s hs.memory image) hrun

/-! ## The latches and the pc -/

/-- Settles O46: no handler writes a latch, a parameter or the load record (`exec_keeps`), so they are the fetch's. -/
theorem stepLeavesFetchedLatches : Obligations.StepLeavesFetchedLatches := by
  intro s t h
  obtain ⟨⟨-, -, hrom⟩, u, hu, rfl⟩ := step_next h
  have hk := exec_keeps hu
  exact ⟨hk.ir, hk.b2, hk.b3, hk.config, hk.romLoaded.trans hrom, rfl⟩

/-- The opcodes of the relative jumps (R180, R181). -/
def jumpOpcodes : List Byte := [0x18#8, 0x20#8, 0x28#8, 0x30#8, 0x38#8]

/-- A step on any other opcode ends past the instruction's bytes (R79). -/
theorem step_pc_of_not_jump {s t : State} (h : step s = .next t) (hop : s.memRead s.pc ∉ jumpOpcodes) :
    t.pc = s.pc + BitVec.ofNat 16 (opcodeLength (s.memRead s.pc)) := by
  obtain ⟨-, u, hu, rfl⟩ := step_next h
  obtain hpc | ⟨e, hi⟩ | ⟨cc, e, hi⟩ := (exec_effect (decodeLatches_decoded _ _ _) hu).pc
  · rw [setPhase_pc, hpc, fetch_a0, length_decodeLatches]
  · rw [eq_of_decodeLatches (congrArg Instr.encode hi)] at hop
    exact absurd (by decide) hop
  · rw [eq_of_decodeLatches ((congrArg Instr.encode hi).trans (encode_jumpRelativeIf cc e))] at hop
    exact absurd (by cases cc <;> decide) hop

/-- A step on `JR e8` with the normative base (R180). -/
theorem step_pc_of_jump {s t : State} (hb : s.config.jrBase = .two) (h : step s = .next t)
    (hop : s.memRead s.pc = 0x18#8) :
    t.pc = s.pc + 2#16 + sext16 (s.memRead (s.pc + 1#16)) := by
  obtain ⟨-, u, hu, rfl⟩ := step_next h
  rw [hop] at hu
  cases (show jumpRelative (s.memRead (s.pc + 1#16)) s.fetch = .next u from hu)
  rw [setPhase_pc, setPc_pc, jumpBase_two (s := s.fetch) hb, fetch_a0]

/-- The opcode of `JR cc,e8` decodes to it, with `b2` as its offset (R80, R81). -/
theorem decodeLatches_jumpRelativeIf (cc : Cond) (b2 b3 : Byte) :
    decodeLatches (BitVec.ofNat 8 (0x20 + 8 * cc.code)) b2 b3 = .jumpRelativeIf cc b2 := by cases cc <;> rfl

/-- A step on `JR cc,e8` with the normative base (R181). -/
theorem step_pc_of_jumpIf {s t : State} (hb : s.config.jrBase = .two) (h : step s = .next t) (cc : Cond)
    (hop : s.memRead s.pc = BitVec.ofNat 8 (0x20 + 8 * cc.code)) :
    t.pc = if s.condHolds cc = true then s.pc + 2#16 + sext16 (s.memRead (s.pc + 1#16)) else s.pc + 2#16 := by
  obtain ⟨-, u, hu, rfl⟩ := step_next h
  rw [hop, decodeLatches_jumpRelativeIf, exec_jumpRelativeIf] at hu
  cases hc : s.condHolds cc
  · cases (jumpRelativeIf_not_taken (s := s.fetch) hc _).symm.trans hu
    rw [setPhase_pc, setPc_pc, fetch_a0]; rfl
  · cases (jumpRelativeIf_taken (s := s.fetch) hc _).symm.trans hu
    rw [setPhase_pc, setPc_pc, jumpBase_two (s := s.fetch) hb, fetch_a0]; rfl

/-- Settles O45: the five jump opcodes by `step_pc_of_jump` and `step_pc_of_jumpIf`, every other one by its length. -/
theorem stepEndsPastTheInstruction : Obligations.StepEndsPastTheInstruction := by
  intro s t hb h
  dsimp only
  rw [← sext16_eq_ofNat]
  by_cases hop : s.memRead s.pc ∈ jumpOpcodes
  · simp only [jumpOpcodes, List.mem_cons, List.not_mem_nil, or_false] at hop
    obtain hop | hop | hop | hop | hop := hop
    · rw [step_pc_of_jump hb h hop, hop]; rfl
    · simp [step_pc_of_jumpIf hb h .nz hop, hop, State.condHolds]
    · rw [step_pc_of_jumpIf hb h .z hop, hop]; rfl
    · simp [step_pc_of_jumpIf hb h .nc hop, hop, State.condHolds]
    · rw [step_pc_of_jumpIf hb h .c hop, hop]; rfl
  · rw [step_pc_of_not_jump h hop, opcodeLength_eq]
    simp only [jumpOpcodes, List.mem_cons, List.not_mem_nil, or_false, not_or] at hop
    obtain ⟨h18, h20, h28, h30, h38⟩ := hop
    simp only [List.mem_cons, List.not_mem_nil, h18, h20, h28, h30, h38, or_false, if_false]
    split_ifs <;> rfl

end Sys2Proof.Machine
end

section
/-! PROOFS. The instructions on one register, pair or byte (spec/40_fetch_decode.md to spec/43_alu8.md), and pairs of them. -/

namespace Sys2Proof.Machine

/-- Settles O24: both handlers answer the state they get. -/
theorem nopAndHaltDoNothing : Obligations.NopAndHaltDoNothing := ⟨rfl, rfl, fun s => ⟨rfl, rfl, pc_eq_a0_add_one s⟩⟩

/-! ## An r8 operand written -/

section

variable (s : State)

@[simp] theorem memRead_setFlags (f : Flags) (x : Word) : (s.setFlags f).memRead x = s.memRead x := rfl

@[simp] theorem readR8_setFlags (f : Flags) (o : R8) : (s.setFlags f).readR8 o = s.readR8 o := by
  cases o with
  | reg r => exact reg_setFlags s f r
  | atHl => rfl

/-- A write to the bus does not read the flags. -/
theorem memWrite_setFlags (f : Flags) (x : Word) (v : Byte) : (s.setFlags f).memWrite x v = (s.memWrite x v).setFlags f := by
  cases hx : isStored x
  · rw [memWrite_of_not_stored _ x v hx, memWrite_of_not_stored s x v hx]
  · rw [memWrite_of_stored _ x v hx, memWrite_of_stored s x v hx]
    rfl

theorem writeR8_setFlags (f : Flags) (o : R8) (v : Byte) : (s.setFlags f).writeR8 o v = (s.writeR8 o v).setFlags f := by
  cases o with
  | reg r => cases r <;> rfl
  | atHl => exact memWrite_setFlags s f s.hl v

/-- An operand reads back what is written to it, (HL) where `HL` is stored (R56, R73). -/
theorem readR8_writeR8_same (h : Memory.wf s.mem) (o : R8) (ho : o = .atHl → isStored s.hl = true) (v : Byte) :
    (s.writeR8 o v).readR8 o = v := by
  cases o with
  | reg r => simp
  | atHl =>
    rw [readR8_atHl, State.writeR8, hl_memWrite, memRead_memWrite s h]
    exact if_pos ⟨rfl, ho rfl⟩

/-- Writing back the byte that was read restores the state: the canonical form has one list for it (log entry 3). -/
theorem memWrite_memWrite_memRead (h : Memory.wf s.mem) (x : Word) (v : Byte) :
    (s.memWrite x v).memWrite x (s.memRead x) = s := by
  cases hx : isStored x
  · rw [memWrite_of_not_stored _ x _ hx, memWrite_of_not_stored s x v hx]
  · have hmem : ((s.memWrite x v).memWrite x (s.memRead x)).mem = s.mem := by
      refine memory_ext _ _ (memWrite_wf _ (memWrite_wf s h x v) x _) h fun y => ?_
      have hput := putByte_rising s.mem x.toNat v h.1
      rw [memWrite_of_stored _ x _ hx, memWrite_of_stored s x v hx, memRead_of_stored s x hx]
      simp only [byteAt_putByte _ _ _ _ hput, byteAt_putByte _ _ _ _ h.1]
      split
      · next hy => rw [hy]
      · rfl
    rw [memWrite_of_stored _ x _ hx, memWrite_of_stored s x v hx] at hmem ⊢
    exact congrArg (fun m => { s with mem := m }) hmem

theorem writeR8_writeR8_readR8 (h : Memory.wf s.mem) (o : R8) (v : Byte) :
    (s.writeR8 o v).writeR8 o (s.readR8 o) = s := by
  cases o with
  | reg r => cases r <;> rfl
  | atHl =>
    rw [State.writeR8, State.writeR8, hl_memWrite, readR8_atHl]
    exact memWrite_memWrite_memRead s h s.hl v

end

/-- Settles O26: one register or memory write (`reg_writeR8`, `memRead_writeR8`), and the immediate byte passed. -/
theorem loadR8Immediate : Obligations.LoadR8Immediate := by
  intro d n s hwf
  refine ⟨encode_loadImm8 d n, _, exec_loadImm8 s d n, ?_, memRead_writeR8 s hwf d n, ?_, ?_, ?_,
    (loadImm8_plain rfl).keepsMachine⟩
  · simp
  · simp
  · simp
  · simpa using pc_add_eq_a0_add s 1#16

/-! ## `INC r16`, `DEC r16` -/

section

variable (s : State) (p : R16)

/-- What a write to a pair leaves alone (R12, R74). -/
theorem writeR16_frame (w : Word) :
    (∀ q, q ≠ p → (s.writeR16 p w).readR16 q = s.readR16 q) ∧ (s.writeR16 p w).a = s.a ∧ (s.writeR16 p w).flags = s.flags ∧
      (∀ x, (s.writeR16 p w).memRead x = s.memRead x) ∧ (s.writeR16 p w).pc = s.a0 + 1#16 ∧
      KeepsMachine s (s.writeR16 p w) :=
  ⟨fun q hq => by rw [readR16_writeR16, if_neg hq], writeR16_a s p w, writeR16_flags s p w, memRead_writeR16 s p w,
    (writeR16_pc s p w).trans (pc_eq_a0_add_one s), writeR16_ir s p w, writeR16_b2 s p w, writeR16_b3 s p w,
    writeR16_status s p w, writeR16_phase s p w, writeR16_romLoaded s p w, writeR16_config s p w⟩

theorem writeR16_writeR16 (w w' : Word) : (s.writeR16 p w).writeR16 p w' = s.writeR16 p w' := by cases p <;> rfl

theorem writeR16_readR16 : s.writeR16 p (s.readR16 p) = s := by
  cases p with
  | bc => rw [State.writeR16, State.readR16, State.setBc, State.bc, hiByte_wordOf, loByte_wordOf]
  | de => rw [State.writeR16, State.readR16, State.setDe, State.de, hiByte_wordOf, loByte_wordOf]
  | hl => rw [State.writeR16, State.readR16, State.setHl, State.hl, hiByte_wordOf, loByte_wordOf]
  | sp => rfl

theorem readR16_hl : s.readR16 .hl = s.hl := rfl

theorem hl_writeR16_hl (w : Word) : (s.writeR16 .hl w).hl = w := hl_setHl s w

/-- `DEC r16` undoes `INC r16` (R141, R142). -/
theorem dec16_inc16 : dec16 p (s.writeR16 p (s.readR16 p + 1#16)) = .next s := by
  rw [dec16, readR16_writeR16_same, BitVec.add_sub_cancel, writeR16_writeR16, writeR16_readR16]

/-- `INC r16` undoes `DEC r16` (R141, R142). -/
theorem inc16_dec16 : inc16 p (s.writeR16 p (s.readR16 p - 1#16)) = .next s := by
  rw [inc16, readR16_writeR16_same, BitVec.sub_add_cancel, writeR16_writeR16, writeR16_readR16]

end

/-- Settles O32: one write to the pair (`writeR16_frame`), read back. -/
theorem incrementAndDecrementPair : Obligations.IncrementAndDecrementPair := by
  intro p s
  refine ⟨encode_inc16 p, encode_dec16 p, _, _, exec_inc16 s p, exec_dec16 s p, ?_, ?_, ?_⟩
  · rw [readR16_writeR16_same, BitVec.toNat_add]
    rfl
  · rw [readR16_writeR16_same, BitVec.toNat_sub, Nat.add_comm]
    rfl
  · rintro v hv
    obtain rfl | rfl := List.mem_pair.mp hv <;> exact writeR16_frame s p _

/-- Settles O50: `dec16_inc16` and `inc16_dec16`; the store between resolving `(HL+)` or `(HL-)` and the second instruction
does not write `HL`. -/
theorem pairMovesCancel : Obligations.PairMovesCancel := by
  constructor
  · exact fun p s => ⟨_, _, exec_inc16 s p, (exec_dec16 _ p).trans (dec16_inc16 s p), exec_dec16 s p,
      (exec_inc16 _ p).trans (inc16_dec16 s p)⟩
  · refine fun s => ⟨_, _, _, _, rfl, rfl, ?_, ?_, rfl, rfl, ?_, ?_⟩
    · rw [hl_writeR16_hl, readR16_hl, hl_memWrite, hl_r16memResolved]
      exact BitVec.add_sub_cancel s.hl 1#16
    · simp
    · rw [hl_writeR16_hl, readR16_hl, hl_memWrite, hl_r16memResolved]
      exact BitVec.sub_add_cancel s.hl 1#16
    · simp

/-! ## `INC r8`, `DEC r8` -/

theorem zeroFlag_add_one (v : Byte) : zeroFlag (v + 1#8) = decide (v = 0xFF#8) := by
  rw [zeroFlag_eq_decide, decide_eq_decide]
  exact add_eq_zero_iff_eq_neg

theorem zeroFlag_sub_one (v : Byte) : zeroFlag (v - 1#8) = decide (v = 0x01#8) := by
  rw [zeroFlag_eq_decide, decide_eq_decide]
  exact sub_eq_zero

/-- A carry out of bit 3 when one is added (R153). -/
theorem addFlags_one_half (v : Byte) : (addFlags v 1#8).half = decide (v.toNat % 16 = 15) := by
  rw [addFlags_eq, decide_eq_decide]
  simp only [BitVec.toNat_ofNat]
  omega

/-- A borrow into bit 3 when one is subtracted (R154). -/
theorem subFlags_one_half (v : Byte) : (subFlags v 1#8).half = decide (v.toNat % 16 = 0) := by
  rw [subFlags_eq, decide_eq_decide]
  simp only [BitVec.toNat_ofNat]
  omega

/-- The flags of `INC r8` (R153, the spec's decision D18). -/
def incFlags (v : Byte) (carry : Bool) : Flags := ⟨decide (v = 0xFF#8), false, decide (v.toNat % 16 = 15), carry⟩

/-- The flags of `DEC r8` (R154). -/
def decFlags (v : Byte) (carry : Bool) : Flags := ⟨decide (v = 0x01#8), true, decide (v.toNat % 16 = 0), carry⟩

section

variable (o : R8) (s : State)

theorem inc8_eq : inc8 o s = .next ((s.writeR8 o (s.readR8 o + 1#8)).setFlags (incFlags (s.readR8 o) s.flags.c)) := by
  rw [inc8, zeroFlag_add_one, addFlags_one_half]
  rfl

theorem dec8_eq : dec8 o s = .next ((s.writeR8 o (s.readR8 o - 1#8)).setFlags (decFlags (s.readR8 o) s.flags.c)) := by
  rw [dec8, zeroFlag_sub_one, subFlags_one_half]
  rfl

/-- What a write to an operand and to the flags does to every register and byte, and leaves alone. -/
theorem writeR8_setFlags_frame (hwf : Memory.wf s.mem) (v : Byte) (f : Flags) :
    (∀ x, ((s.writeR8 o v).setFlags f).reg x = if o = .reg x then v else s.reg x) ∧
    (∀ x, ((s.writeR8 o v).setFlags f).memRead x = if o = .atHl ∧ x = s.hl ∧ isStored x = true then v else s.memRead x) ∧
    ((s.writeR8 o v).setFlags f).sp = s.sp ∧ ((s.writeR8 o v).setFlags f).pc = s.a0 + 1#16 ∧
    KeepsMachine s ((s.writeR8 o v).setFlags f) := by
  refine ⟨fun x => ?_, memRead_writeR8 s hwf o v, ?_, ?_, ⟨?_, ?_, ?_, ?_, ?_, ?_, ?_⟩⟩
  case refine_3 => simpa using pc_eq_a0_add_one s
  all_goals simp

/-- `DEC` after an increment of its operand, whatever the flags: it writes back the byte that was there. -/
theorem dec8_inc8 (hwf : Memory.wf s.mem) (ho : o = .atHl → isStored s.hl = true) (f : Flags) :
    dec8 o ((s.writeR8 o (s.readR8 o + 1#8)).setFlags f) = .next (s.setFlags (decFlags (s.readR8 o + 1#8) f.c)) := by
  rw [dec8_eq, readR8_setFlags, readR8_writeR8_same s hwf o ho, BitVec.add_sub_cancel, writeR8_setFlags,
    writeR8_writeR8_readR8 s hwf]
  rfl

end

/-- Settles O33: one write to the operand (`writeR8_setFlags_frame`) with the flags of `inc8_eq` and `dec8_eq`. -/
theorem incrementAndDecrementR8 : Obligations.IncrementAndDecrementR8 := by
  intro o s hwf
  dsimp only
  have hinc : s.readR8 o + 1#8 = BitVec.ofNat 8 ((s.readR8 o).toNat + 1) := BitVec.add_def _ 1#8
  have hdec : s.readR8 o - 1#8 = BitVec.ofNat 8 ((s.readR8 o).toNat + 255) := byte_sub_eq_ofNat _ 1#8
  rw [← hinc, ← hdec]
  refine ⟨encode_inc8 o, encode_dec8 o, _, _, (exec_inc8 s o).trans (inc8_eq o s), (exec_dec8 s o).trans (dec8_eq o s),
    rfl, rfl, fun w hw => ?_⟩
  obtain rfl | rfl := List.mem_pair.mp hw <;> exact writeR8_setFlags_frame o s hwf _ _

/-- Settles O49: after `INC`, `DEC` leaves the state as it was but for the flags (`dec8_inc8`). -/
theorem incrementThenDecrementR8 : Obligations.IncrementThenDecrementR8 := fun o s hwf ho =>
  ⟨_, _, (exec_inc8 s o).trans (inc8_eq o s), (exec_dec8 _ o).trans (dec8_inc8 o s hwf ho _), readR8_setFlags s _ o,
    rfl, rfl, reg_setFlags s _, memRead_setFlags s _⟩

/-! ## `ADC A,r8`, `SBC A,r8` -/

theorem foldCarry_false (v : Byte) : foldCarry v false = v := BitVec.add_zero v

/-- The folded operand is the wrapped sum of operand and carry (R157, R159). -/
theorem foldCarry_toNat (v : Byte) (carry : Bool) : (foldCarry v carry).toNat = (v.toNat + carry.toNat) % 256 := by
  rw [foldCarry, BitVec.toNat_add]
  cases carry <;> rfl

/-- Settles O35: ADD's and SUB's results and flags (`addToA_eq`, `subtractFromA_eq`) with the folded operand; modulo 256 the
fold is a second addition or subtraction. -/
theorem addAndSubtractWithCarry : Obligations.AddAndSubtractWithCarry := by
  intro o s
  dsimp only
  have hsum : BitVec.ofNat 8 (s.a.toNat + (s.readR8 o).toNat + s.flags.c.toNat) =
      BitVec.ofNat 8 (s.a.toNat + ((s.readR8 o).toNat + s.flags.c.toNat) % 256) := by
    apply BitVec.eq_of_toNat_eq
    simp only [BitVec.toNat_ofNat]
    omega
  have hdiff : BitVec.ofNat 8 (s.a.toNat + 512 - (s.readR8 o).toNat - s.flags.c.toNat) =
      BitVec.ofNat 8 (s.a.toNat + 256 - ((s.readR8 o).toNat + s.flags.c.toNat) % 256) := by
    have hv := (s.readR8 o).isLt
    have hc := Bool.toNat_le s.flags.c
    apply BitVec.eq_of_toNat_eq
    simp only [BitVec.toNat_ofNat]
    omega
  rw [hsum, hdiff, ← foldCarry_toNat]
  exact ⟨encode_alu 1 o, encode_alu 3 o,
    (exec_alu .adc o s).trans (congrArg Host.Outcome.next (addToA_eq _ s)),
    (exec_alu .sbc o s).trans (congrArg Host.Outcome.next (subtractFromA_eq _ s)), pc_eq_a0_add_one s⟩

/-- With Carry clear the fold adds nothing (R157, R159). -/
theorem exec_adc_sbc_of_not_carry (o : R8) {s : State} (hc : s.flags.c = false) :
    exec (Instr.alu .adc o) s = exec (Instr.alu .add o) s ∧ exec (Instr.alu .sbc o) s = exec (Instr.alu .sub o) s := by
  simp only [exec_alu, aluOperation, adcA, sbcA, addA, subA, hc, foldCarry_false, and_self]

/-- Settles O51: the flags are those of O35, and each clause is arithmetic on the operand `v` and the carry, at most 1: the
fold wraps only where `v` is 255, and reaches a new low nibble only where that of `v` is 15. -/
theorem carryFoldAgainstThreeInputAdder : Obligations.CarryFoldAgainstThreeInputAdder := by
  intro o s
  obtain ⟨-, -, hadc, hsbc, -⟩ := addAndSubtractWithCarry o s
  dsimp only at hadc hsbc ⊢
  refine ⟨exec_adc_sbc_of_not_carry o, _, _, hadc, hsbc, ?_⟩
  dsimp only
  have hv := (s.readR8 o).isLt
  have ha := s.a.isLt
  have hcarry := Bool.toNat_le s.flags.c
  refine ⟨fun h => ?_, fun hc hnibble hne => ?_, fun hc hv255 => ?_⟩
  · have hk : s.flags.c.toNat = 0 ∨ (s.readR8 o).toNat % 16 ≠ 15 := h.imp_left fun hc => by rw [hc]; rfl
    exact ⟨decide_eq_decide.mpr (by omega), decide_eq_decide.mpr (by omega), decide_eq_decide.mpr (by omega),
      decide_eq_decide.mpr (by omega)⟩
  · have hone : s.flags.c.toNat = 1 := by rw [hc]; rfl
    exact ⟨decide_eq_false (by omega), by omega, decide_eq_decide.mpr (by omega), decide_eq_false (by omega), by omega,
      decide_eq_decide.mpr (by omega)⟩
  · have hone : s.flags.c.toNat = 1 := by rw [hc]; rfl
    have hadd : BitVec.ofNat 8 (s.a.toNat + (s.readR8 o).toNat + s.flags.c.toNat) = s.a := by
      apply BitVec.eq_of_toNat_eq
      simp only [BitVec.toNat_ofNat]
      omega
    have hsub : BitVec.ofNat 8 (s.a.toNat + 512 - (s.readR8 o).toNat - s.flags.c.toNat) = s.a := by
      apply BitVec.eq_of_toNat_eq
      simp only [BitVec.toNat_ofNat]
      omega
    exact ⟨hadd, decide_eq_false (by omega), decide_eq_false (by omega), by omega, by omega,
      hsub, decide_eq_false (by omega), decide_eq_false (by omega), by omega, by omega⟩

end Sys2Proof.Machine
end
